-- ==== Sys2Proof/Word.lean ====
section
/-! DEFINITION. The two widths of the block (R44): the byte (u8) and the 16-bit word (u16), both
unsigned (R8, R106). -/

namespace Sys2Proof

/-- `u8`: a byte of a frame or of the job image, 0..255 (R8). -/
abbrev Byte := BitVec 8

/-- `u16`: a word of a frame or a 16-bit register, 0..65535 (R8, R44). -/
abbrev Word := BitVec 16

end Sys2Proof
end

