-- ==== Sys2Proof/Config.lean ====
section
/-! DEFINITION. What is fixed for the block: the fixed parameters of 00_scope.md section 4, the
request defaults of R204, the open parameter `ACK_TOKEN` (R27), the default of `BADLEN_FATAL` (R28),
and the free values that stand for what the spec calls unspecified. -/

namespace Sys2Proof.Config

/-- `CTRL_LEN`: the length of every control frame (R60). -/
abbrev ctrlLen : Nat := 12

/-- `DATA_LEN`: the length of every data frame (R61). -/
abbrev dataLen : Nat := 20

/-- `CHUNK`: the payload bytes per block (R61). -/
abbrev chunkLen : Nat := 16

/-- `MAX_BLOCKS`: the largest block count (R111). -/
abbrev maxBlocks : Nat := 65535

/-- `flowControlWindow` when the request is silent (R21, R204). -/
abbrev defaultWindow : Word := 2

/-- `copies/jobId` when the request is silent (R22, R204). -/
abbrev defaultCopies : Word := 1

/-- "skip initial status wait" when the request is silent (R26, R204). -/
abbrev defaultSkipStatus : Bool := false

/-- `ACK_TOKEN`, the "fixed ack token": OPEN, no value in the source (R27, D8, N4). An opaque
constant: nothing can be proved about its value. Log 6. -/
opaque ackToken : Word

/-- `BADLEN_FATAL`: false by default (R28, D16). Log 7. -/
def badlenFatal : Bool := false

/-- Free value number `n` of a 16-bit register whose value the spec leaves unspecified (10_state.md
section 9). Log 5. -/
opaque freeWord (n : Nat) : Word

/-- Free value number `n` of a duration register. Log 5. -/
opaque freeDuration (n : Nat) : Nat

/-- Free value number `n` of a one-bit register. Log 5. -/
opaque freeBit (n : Nat) : Bool

end Sys2Proof.Config
end

