-- ==== Sys2Proof/Syntax.lean ====
section
/-! DEFINITION. The syntax: opcodes, decoded frames, the error taxonomy, the request configuration,
and `Instr`, one constructor per row of spec/opcode_table.json (00_scope.md section 5: an
"instruction" of this block is a frame kind on the wire, an operation, or a sequencer step). -/

namespace Sys2Proof

/-- The control opcode, "a closed enumeration" (R64). -/
inductive Opcode where
  | status | start | complete | midProgress
  deriving DecidableEq, Repr

/-- A decoded control frame (R91): the opcode and five words; `pad` is not returned (R68). -/
structure ControlFrame where
  op : Opcode
  w1 : Word
  w2 : Word
  w3 : Word
  w4 : Word
  w5 : Word
  deriving DecidableEq, Repr

/-- A decoded data frame (R93): the block index and the payload. -/
structure DataFrame where
  index : Word
  payload : List Byte
  deriving DecidableEq, Repr

/-- The kind a `DecodeError` carries (R160): a closed pair. -/
inductive DecodeKind where
  | badLength | unknownOpcode
  deriving DecidableEq, Repr

/-- What the Transport Port reports of a failed write. It is opaque and only carried (R164, D37,
U18); the model takes an arbitrary natural number for it. Log 21. -/
abbrev TransportInfo := Nat

/-- The closed set of causes (R160). -/
inductive Cause where
  | encodingError
  | decodeError (kind : DecodeKind)
  | transportError (e : TransportInfo)
  | jobTimeout
  | cancelled
  | imageTooLarge
  | jobInProgress
  | emptyImage
  deriving DecidableEq, Repr

/-- The configuration that comes with a print request (10_state.md section 4); `none` where the
request is silent (R204). The window is an integer of the source's type `int` (R21), the durations
are natural numbers of no unit (R23 to R25, D19; log 8). -/
structure JobConfig where
  flowControlWindow : Option Int
  statusWaitTimeout : Option Nat
  completionWaitTimeout : Option Nat
  ackDrainGrace : Option Nat
  copies : Option Word
  skipStatus : Option Bool
  deriving DecidableEq, Repr

/-- Whether a frame is one the host hands to the transport or one it receives as a notification
(the "Direction" of R64; log 14). -/
inductive Direction where
  | sent | received
  deriving DecidableEq, Repr

/-- One constructor per row of the opcode table. -/
inductive Instr where
  -- the six frame kinds (40_frames.md)
  | status (w1 w2 w3 w4 w5 : Word)
  | start (dir : Direction) (w1 w2 w3 w4 w5 : Word)
  | ack (dir : Direction) (bc token : Word)
  | complete (w1 w2 w3 w4 w5 : Word)
  | midProgress (w1 w2 w3 w4 w5 : Word)
  | data (dir : Direction) (index : Word) (payload : List Byte)
  -- the nine operations (41_codec_ops.md, 42_flow_control.md, 43_block_counter.md)
  | encCtrl (op : Byte) (w1 w2 w3 w4 w5 : Nat)
  | decCtrl (b : List Byte)
  | encData (index : Nat) (payload : List Byte)
  | decData (b : List Byte)
  | acquire
  | release
  | jobLoad (image : List Byte) (cfg : JobConfig)
  | chunk (i : Nat)
  | opNextBlock
  -- the sequencer steps (44_job_sequencer.md)
  | printReqAccept (image : List Byte) (cfg : JobConfig)
  | printReqReject (image : List Byte) (cfg : JobConfig)
  | rxStatus (b : List Byte)
  | skipStatus
  | tStatus
  | issueStart
  | txdoneOkInStarting
  | nextBlock
  | txdoneOkInStreaming
  | txdoneErr (e : TransportInfo)
  | rxDiscard (b : List Byte)
  | rxCompleteMatch (b : List Byte)
  | issueAck
  | txdoneOkInAcknowledging
  | rxOtherInAwaitingCompletion (b : List Byte)
  | tComplete
  | rxInDone (b : List Byte)
  | tGrace
  | releaseSession
  | cancel
  | rxClosed
  | rxUndecodableInWait (b : List Byte)
  deriving DecidableEq, Repr

end Sys2Proof
end

