-- ==== Sys2Proof/WellFormed.lean ====
section
/-! DEFINITION. Which terms of the syntax are instructions of this block. Ranges of words hold by
their type; what remains are the three checks below. Every operation and sequencer step is defined
on all its operands (an operand out of range is an `EncodingError`, R72, not an ill-formed term). -/

namespace Sys2Proof

/-- A payload "is always exactly 16 bytes" (R61). -/
def payloadLengthOk (payload : List Byte) : Bool := payload.length == Config.chunkLen

/-- A START frame that the host sends has `w3 = w4 = w5 = 0` (R69, R81). -/
def sentWordsOk (dir : Direction) (w3 w4 w5 : Word) : Bool :=
  dir != .sent || (w3 == 0 && w4 == 0 && w5 == 0)

/-- Index 65534 is the highest that the host sends (R85, R115); a received frame may hold any. -/
def sentIndexOk (dir : Direction) (index : Word) : Bool := dir != .sent || index != 0xFFFF

/-- The well-formed instructions. -/
def Instr.wf : Instr → Bool
  | .start dir _ _ w3 w4 w5 => sentWordsOk dir w3 w4 w5
  | .data dir index payload => payloadLengthOk payload && sentIndexOk dir index
  | .status .. | .ack .. | .complete .. | .midProgress ..
  | .encCtrl .. | .decCtrl .. | .encData .. | .decData ..
  | .acquire | .release | .jobLoad .. | .chunk .. | .opNextBlock
  | .printReqAccept .. | .printReqReject .. | .rxStatus .. | .skipStatus | .tStatus
  | .issueStart | .txdoneOkInStarting | .nextBlock | .txdoneOkInStreaming | .txdoneErr ..
  | .rxDiscard .. | .rxCompleteMatch .. | .issueAck | .txdoneOkInAcknowledging
  | .rxOtherInAwaitingCompletion .. | .tComplete | .rxInDone .. | .tGrace | .releaseSession
  | .cancel | .rxClosed | .rxUndecodableInWait .. => true

end Sys2Proof
end

