-- ==== Sys2Proof/Decode.lean ====
section
/-! DEFINITION. The Frame Codec (41_codec_ops.md), pure and stateless: byte helpers, the two frame
layouts, the four codec operations as functions, the decoder from a notification's bytes to an
instruction, and after it the encoder. -/

namespace Sys2Proof

/-- `lo8(w) = w[7:0]` (R8). -/
def lo8 (w : Word) : Byte := w.extractLsb' 0 8

/-- `hi8(w) = w[15:8]` (R8). -/
def hi8 (w : Word) : Byte := w.extractLsb' 8 8

/-- `le16(x, y) = x + 256*y`, zero-extended (R8, R63). -/
def le16 (x y : Byte) : Word := BitVec.ofNat 16 (x.toNat + 256 * y.toNat)

/-- `b[k]`, used only where `k < len(b)`. -/
def byteAt (b : List Byte) (k : Nat) : Byte := b.getD k 0

/-- The word at bytes `k, k+1`, little-endian (R42). -/
def wordAt (b : List Byte) (k : Nat) : Word := le16 (byteAt b k) (byteAt b (k + 1))

/-- `code(op)` (R64, 41_codec_ops.md types). -/
def Opcode.code : Opcode → Byte
  | .status => 0x02
  | .start => 0x04
  | .complete => 0x06
  | .midProgress => 0x07

/-- The opcode with the given code; none for the 252 illegal values (R64, R67). -/
def opcodeOf (b : Byte) : Option Opcode :=
  if b = 0x02 then some .status
  else if b = 0x04 then some .start
  else if b = 0x06 then some .complete
  else if b = 0x07 then some .midProgress
  else none

/-- The control layout (R60): opcode, a zero `pad` (R68), five words little-endian. -/
def controlBytes (op : Opcode) (w1 w2 w3 w4 w5 : Word) : List Byte :=
  [op.code, 0x00, lo8 w1, hi8 w1, lo8 w2, hi8 w2, lo8 w3, hi8 w3, lo8 w4, hi8 w4, lo8 w5, hi8 w5]

/-- The data layout (R61): the marker, the index little-endian, the payload in order (R43). -/
def dataBytes (index : Word) (payload : List Byte) : List Byte :=
  [0x55, 0x00, lo8 index, hi8 index] ++ payload

/-- A natural operand as a word; none above 65535 (R63, R72). -/
def wordOf (n : Nat) : Option Word := if n < 65536 then some (BitVec.ofNat 16 n) else none

/-- `ENC_CTRL` (R90), with the raw opcode byte of R72 (D3; log 17). -/
def encControl (op : Byte) (w1 w2 w3 w4 w5 : Nat) : Except Cause (List Byte) :=
  match opcodeOf op, wordOf w1, wordOf w2, wordOf w3, wordOf w4, wordOf w5 with
  | some o, some v1, some v2, some v3, some v4, some v5 => .ok (controlBytes o v1 v2 v3 v4 v5)
  | _, _, _, _, _, _ => .error .encodingError

/-- `DEC_CTRL` (R91): the length is checked first (R70), `pad` is not looked at (R68). -/
def decControl (b : List Byte) : Except DecodeKind ControlFrame :=
  if b.length ≠ Config.ctrlLen then .error .badLength
  else match opcodeOf (byteAt b 0) with
    | none => .error .unknownOpcode
    | some op => .ok ⟨op, wordAt b 2, wordAt b 4, wordAt b 6, wordAt b 8, wordAt b 10⟩

/-- `ENC_DATA` (R92): no padding, no truncation. -/
def encData (index : Nat) (payload : List Byte) : Except Cause (List Byte) :=
  if payload.length ≠ Config.chunkLen then .error .encodingError
  else match wordOf index with
    | none => .error .encodingError
    | some w => .ok (dataBytes w payload)

/-- `DEC_DATA` (R93): length, then both marker bytes (R71). -/
def decData (b : List Byte) : Except DecodeKind DataFrame :=
  if b.length ≠ Config.dataLen then .error .badLength
  else if byteAt b 0 ≠ 0x55 ∨ byteAt b 1 ≠ 0x00 then .error .unknownOpcode
  else .ok ⟨wordAt b 2, b.drop 4⟩

/-- A received control frame as an instruction. A frame of opcode `Start` is `start` whatever `w2`
holds: the decoder makes no attempt to tell an ACK from a START (R65; log 14). -/
def ControlFrame.toInstr (f : ControlFrame) : Instr :=
  match f.op with
  | .status => .status f.w1 f.w2 f.w3 f.w4 f.w5
  | .start => .start .received f.w1 f.w2 f.w3 f.w4 f.w5
  | .complete => .complete f.w1 f.w2 f.w3 f.w4 f.w5
  | .midProgress => .midProgress f.w1 f.w2 f.w3 f.w4 f.w5

/-- The decoder, total on byte sequences of any length: 20 bytes are tried as a data frame
(`DEC_DATA`), everything else as a control frame (`DEC_CTRL`); the two formats differ in length
(R62, R66). It rejects by the name of the `DecodeError` kind. -/
def decode (b : List Byte) : Except DecodeKind Instr :=
  if b.length = Config.dataLen then
    match decData b with
    | .ok f => .ok (.data .received f.index f.payload)
    | .error k => .error k
  else
    match decControl b with
    | .ok f => .ok f.toInstr
    | .error k => .error k

/-- The encoder: the bytes of a frame kind, from the layouts of 30_encoding.md. START and ACK are
pseudo-frames of opcode `Start` (R65, R73). Operations and steps have no encoding (D25, N8). -/
def encode : Instr → Option (List Byte)
  | .status w1 w2 w3 w4 w5 => some (controlBytes .status w1 w2 w3 w4 w5)
  | .start _ w1 w2 w3 w4 w5 => some (controlBytes .start w1 w2 w3 w4 w5)
  | .ack _ bc token => some (controlBytes .start bc token 0 0 0)
  | .complete w1 w2 w3 w4 w5 => some (controlBytes .complete w1 w2 w3 w4 w5)
  | .midProgress w1 w2 w3 w4 w5 => some (controlBytes .midProgress w1 w2 w3 w4 w5)
  | .data _ index payload => some (dataBytes index payload)
  | .encCtrl .. | .decCtrl .. | .encData .. | .decData ..
  | .acquire | .release | .jobLoad .. | .chunk .. | .opNextBlock
  | .printReqAccept .. | .printReqReject .. | .rxStatus .. | .skipStatus | .tStatus
  | .issueStart | .txdoneOkInStarting | .nextBlock | .txdoneOkInStreaming | .txdoneErr ..
  | .rxDiscard .. | .rxCompleteMatch .. | .issueAck | .txdoneOkInAcknowledging
  | .rxOtherInAwaitingCompletion .. | .tComplete | .rxInDone .. | .tGrace | .releaseSession
  | .cancel | .rxClosed | .rxUndecodableInWait .. => none

/-- What the wire keeps of an instruction: a frame read back is a received one, and an ACK is a
frame of opcode `Start` (R65). -/
def Instr.onWire : Instr → Instr
  | .start _ w1 w2 w3 w4 w5 => .start .received w1 w2 w3 w4 w5
  | .ack _ bc token => .start .received bc token 0 0 0
  | .data _ index payload => .data .received index payload
  | i => i

/-- The first `n` bytes of the integer view `F` of R7: byte `k` is `F[8k+7:8k]`. -/
def bytesOfNat : Nat → Nat → List Byte
  | 0, _ => []
  | n + 1, w => BitVec.ofNat 8 w :: bytesOfNat n (w / 256)

/-- How many bytes the frame has whose low `nbits` bits are `w`: 12, or 20 where the bits given are
too many for a control frame or are the data marker `55 00`; the bits above `nbits` are zero. -/
def tableWordLength (nbits w : Nat) : Nat :=
  let k := (nbits + 7) / 8
  if Config.ctrlLen < k then max k Config.dataLen
  else if k < Config.ctrlLen ∧ w % 65536 = 0x0055 then Config.dataLen
  else Config.ctrlLen

/-- The bytes of a table word in wire order. -/
def tableWordBytes (nbits w : Nat) : List Byte := bytesOfNat (tableWordLength nbits w) (w % 2 ^ nbits)

/-- The instruction the decoder reads from a table word (log 22). -/
def decodeTableWord (nbits w : Nat) : Option Instr := (decode (tableWordBytes nbits w)).toOption

end Sys2Proof
end

