-- ==== Sys2Proof/Machine/State.lean ====
section
/-! DEFINITION. The state of the block as plain data (10_state.md), the reasons a step can stop, and
the state after power-on (R200). -/

namespace Sys2Proof.Machine

/-- `STATE` (R14): an enumeration of eight names, no numeric encoding (D25). -/
inductive Phase where
  | idle | awaitingStatus | starting | streaming | awaitingCompletion | acknowledging | done | failed
  deriving DecidableEq, Repr

/-- `CAP[1..5]` (R20). -/
structure Caps where
  c1 : Word
  c2 : Word
  c3 : Word
  c4 : Word
  c5 : Word
  deriving DecidableEq, Repr

/-- Which of the three one-shot timers is running (R191; log 20). -/
structure Timers where
  status : Bool
  complete : Bool
  grace : Bool
  deriving DecidableEq, Repr

/-- The answer to a print request, `print_rsp(Ok)` or `print_rsp(Err(cause))` (R196). -/
inductive Response where
  | ok
  | err (c : Cause)
  deriving DecidableEq, Repr

/-- The value an operation returns on its port (41_codec_ops.md; `CHUNK`, R112; an error raised by
`JOB_LOAD`, R110). -/
inductive OpResult where
  | bytes (b : List Byte)
  | control (f : ControlFrame)
  | data (f : DataFrame)
  | error (c : Cause)
  deriving DecidableEq, Repr

/-- A call of a codec operation on its own port (R5, R11, R161). -/
inductive CodecCall where
  | encCtrl (op : Byte) (w1 w2 w3 w4 w5 : Nat)
  | decCtrl (b : List Byte)
  | encData (index : Nat) (payload : List Byte)
  | decData (b : List Byte)
  deriving DecidableEq, Repr

/-- The five spontaneous steps (R120). -/
inductive Spontaneous where
  | skipStatus | issueStart | nextBlock | issueAck | releaseSession
  deriving DecidableEq, Repr

/-- One entry of the serialised input (R120, R178): an input event, the scheduler's offer of a
spontaneous step (R145), or a call of a codec operation (R5). Log 1. -/
inductive Event where
  | printReq (image : List Byte) (cfg : JobConfig)
  | rx (b : List Byte)
  | rxClosed
  | txdoneOk
  | txdoneErr (e : TransportInfo)
  | tStatus
  | tComplete
  | tGrace
  | cancel
  | spontaneous (k : Spontaneous)
  | codec (c : CodecCall)
  deriving DecidableEq, Repr

/-- The job image as addressable bytes (R29, R40): pairs of address and byte, addresses strictly
rising. An address that is not listed holds no byte (log 12). -/
abbrev Memory := List Host.Cell

/-- The state of the block. -/
structure State where
  /-- `STATE` (R14) -/
  phase : Phase
  /-- `CAUSE` (R15) -/
  cause : Option Cause
  /-- `BLOCK_COUNT` (R16) -/
  blockCount : Word
  /-- `COPIES` (R22) -/
  copies : Word
  /-- `NEXT_INDEX` (R17) -/
  nextIndex : Word
  /-- `OUTSTANDING` (R18) -/
  outstanding : Word
  /-- `CTRL_PENDING` (R19) -/
  ctrlPending : Bool
  /-- `CAP_VALID` (R20) -/
  capValid : Bool
  /-- `CAP[1..5]` (R20) -/
  cap : Caps
  /-- `WINDOW` (R21) -/
  window : Word
  /-- `T_STATUS` (R23) -/
  tStatus : Nat
  /-- `T_COMPLETE` (R24) -/
  tComplete : Nat
  /-- `T_GRACE` (R25) -/
  tGrace : Nat
  /-- `SKIP_STATUS` (R26) -/
  skipStatus : Bool
  /-- `IMG` (R29) -/
  img : Memory
  /-- `IMG_LEN` (R29) -/
  imgLen : Nat
  /-- the three timers (R191) -/
  timers : Timers
  /-- `ACK_TOKEN` (R27), a parameter no step writes (log 6) -/
  ackToken : Word
  /-- `BADLEN_FATAL` (R28), a parameter no step writes (log 7) -/
  badlenFatal : Bool
  /-- the outbound write stream: the frames handed to the transport so far, oldest first (R40, R48) -/
  tx : List (List Byte)
  /-- the `print_rsp` outputs so far, oldest first (R120; log 13) -/
  responses : List Response
  /-- the values operations returned on their ports so far, oldest first (log 13) -/
  results : List OpResult
  /-- the inputs not yet consumed, in the order in which they will be (R40, R50, R145; log 1) -/
  inbox : List Event
  /-- how many free values have been taken; the model's own (log 5) -/
  freeCount : Nat
  deriving DecidableEq, Repr

/-- Why the machine stops with a fault. -/
inductive Fault where
  /-- Raised by `MemRead` (`memRead`, called by `CHUNK` and so by `NEXT_BLOCK` and a sent `DATA`) for a
  read below `IMG_LEN` of an offset where the image memory lists no byte: a state in which `IMG` and
  `IMG_LEN` disagree, which no run reaches. Safe: the machine stops. Log 11. -/
  | imageAddressAbsent (addr : Nat)
  deriving DecidableEq, Repr

/-- Why the machine refuses a step: the spec gives it no meaning. -/
inductive Refusal where
  /-- Raised by `exec` alone, for an instruction that has no meaning in this model yet. Safe. -/
  | notModelled (mnemonic : String)
  /-- Raised by `txdone(ok)` and `txdone(err e)` when no write is pending (R143, U6, D10). Safe. -/
  | noWritePending
  /-- Raised by `RELEASE` with `OUTSTANDING = 0`: "never a value" (R101, U6, D10). Safe. -/
  | releaseUnderflow
  /-- Raised by a print request in `Idle` (and `JOB_LOAD`) whose `flowControlWindow` is not in
  1..65535 (R21, U23, D9). Safe. -/
  | windowOutOfRange
  /-- Raised by a print request in `Idle` (and `JOB_LOAD`) without one of the three durations
  (R204, U23). Safe. -/
  | durationMissing
  /-- Raised by `MemRead(addr, n)` with `addr + n > IMG_LEN` (`memRead`, called by `CHUNK` and so by
  `NEXT_BLOCK` and a sent `DATA`), for which it is not defined (R41, U21). Safe. -/
  | readPastImage (addr n : Nat)
  /-- Raised by `CHUNK(i)` with `i >= BLOCK_COUNT` (R112, U21, D33). Safe. -/
  | chunkOutOfRange (i : Nat)
  /-- Raised by `ACQUIRE` and `CHUNK` in `Idle`, which would read a register that is unspecified
  outside a session (U20: "a model must `refuse` (or fault) a read"). Safe. Log 10. -/
  | noSession
  deriving DecidableEq, Repr

/-- No timer runs. -/
def Timers.off : Timers := ⟨false, false, false⟩

/-- The block after power-on (R200). The registers R200 leaves unspecified hold zero (log 4);
`ACK_TOKEN` is the open constant (log 6). -/
def State.reset : State where
  phase := .idle
  cause := none
  blockCount := 0
  copies := 0
  nextIndex := 0
  outstanding := 0
  ctrlPending := false
  capValid := false
  cap := ⟨0, 0, 0, 0, 0⟩
  window := 0
  tStatus := 0
  tComplete := 0
  tGrace := 0
  skipStatus := false
  img := []
  imgLen := 0
  timers := .off
  ackToken := Config.ackToken
  badlenFatal := Config.badlenFatal
  tx := []
  responses := []
  results := []
  inbox := []
  freeCount := 0

/-- What a meaning answers. -/
abbrev Result := Host.Outcome State Fault Refusal

end Sys2Proof.Machine
end

