-- ==== Sys2Proof/Machine/Flags.lean ====
section
/-! DEFINITION. The derived status conditions (10_state.md section 6): functions of the registers,
there is no flags register. With them the guards built from them, and the classification helpers of
R95. -/

namespace Sys2Proof.Machine

/-- `slot_free := (OUTSTANDING < WINDOW)` (R30). -/
abbrev State.SlotFree (s : State) : Prop := s.outstanding < s.window

/-- `all_issued := (NEXT_INDEX = BLOCK_COUNT)` (R31). -/
abbrev State.AllIssued (s : State) : Prop := s.nextIndex = s.blockCount

/-- `all_sent := all_issued and (OUTSTANDING = 0)` (R31). -/
abbrev State.AllSent (s : State) : Prop := s.AllIssued ∧ s.outstanding = 0

/-- `busy := (STATE != Idle)` (R32). -/
abbrev State.Busy (s : State) : Prop := s.phase ≠ .idle

/-- `terminal := (STATE = Done or STATE = Failed)` (R33). -/
abbrev State.Terminal (s : State) : Prop := s.phase = .done ∨ s.phase = .failed

/-- A write handed over has not been answered yet: the control part is `CTRL_PENDING`, the data part
`OUTSTANDING` (R34(a)). -/
abbrev State.WritePending (s : State) : Prop := s.ctrlPending = true ∨ 0 < s.outstanding

/-- The guard of `next_block` (R114, R127). -/
abbrev State.NextBlockEnabled (s : State) : Prop :=
  s.phase = .streaming ∧ s.nextIndex < s.blockCount ∧ s.SlotFree

/-- The guard of `issue_start` (R125). -/
abbrev State.IssueStartEnabled (s : State) : Prop := s.phase = .starting ∧ s.ctrlPending = false

/-- The guard of `issue_ack` (R133). -/
abbrev State.IssueAckEnabled (s : State) : Prop := s.phase = .acknowledging ∧ s.ctrlPending = false

/-- The guard of the spontaneous `release_session` (R139). -/
abbrev State.ReleaseEnabled (s : State) : Prop :=
  s.phase = .failed ∧ s.outstanding = 0 ∧ s.ctrlPending = false

/-- The five states in which `cancel` acts (R140). -/
abbrev State.Cancellable (s : State) : Prop :=
  s.phase = .awaitingStatus ∨ s.phase = .starting ∨ s.phase = .streaming
    ∨ s.phase = .awaitingCompletion ∨ s.phase = .acknowledging

/-- The two states that wait for a frame (R142). -/
abbrev State.InFrameWait (s : State) : Prop := s.phase = .awaitingStatus ∨ s.phase = .awaitingCompletion

/-- `is_status` on a decoded notification (R95). -/
def isStatus (d : Except DecodeKind ControlFrame) : Bool :=
  match d with
  | .ok f => f.op == .status
  | .error _ => false

/-- `is_complete_for` on a decoded notification (R95): `w1` only (D30). -/
def isCompleteFor (d : Except DecodeKind ControlFrame) (bc : Word) : Bool :=
  match d with
  | .ok f => f.op == .complete && f.w1 == bc
  | .error _ => false

/-- `undecodable` on a decoded notification (R95). -/
def undecodable (d : Except DecodeKind ControlFrame) : Bool :=
  match d with
  | .ok _ => false
  | .error _ => true

end Sys2Proof.Machine
end

