-- ==== Sys2Proof/Machine/Operands.lean ====
section
/-! DEFINITION. The operand forms of the job operations: the configuration of a request with its
defaults and legal range (10_state.md section 4, R204), the request's image (R110, R111), and the
byte-sequence primitives of R8. -/

namespace Sys2Proof.Machine

/-- `ceil_div(a, d) = (a + d - 1) / d` (R8). -/
def ceilDiv (a d : Nat) : Nat := (a + d - 1) / d

/-- `zeros(n)` (R8). -/
def zeros (n : Nat) : List Byte := List.replicate n 0

/-- The configuration registers as a request fills them (10_state.md section 4). -/
structure Latched where
  window : Word
  tStatus : Nat
  tComplete : Nat
  tGrace : Nat
  copies : Word
  skipStatus : Bool
  deriving DecidableEq, Repr

/-- `WINDOW` from the request: 2 when silent, none outside 1..65535 (R21, D9). -/
def windowOperand (cfg : JobConfig) : Option Word :=
  match cfg.flowControlWindow with
  | none => some Config.defaultWindow
  | some w => if 1 ≤ w ∧ w ≤ 65535 then some (BitVec.ofNat 16 w.toNat) else none

/-- `COPIES` from the request: 1 when silent, every u16 legal (R22, D39). -/
def copiesOperand (cfg : JobConfig) : Word := cfg.copies.getD Config.defaultCopies

/-- `SKIP_STATUS` from the request: false when silent (R26, R204). -/
def skipOperand (cfg : JobConfig) : Bool := cfg.skipStatus.getD Config.defaultSkipStatus

/-- The configuration a request asks for, or why it lies outside the modelled space (U23). The window
is looked at before the durations (log 9). -/
def latch (cfg : JobConfig) : Except Refusal Latched :=
  match windowOperand cfg with
  | none => .error .windowOutOfRange
  | some w =>
    match cfg.statusWaitTimeout, cfg.completionWaitTimeout, cfg.ackDrainGrace with
    | some ts, some tc, some tg => .ok ⟨w, ts, tc, tg, copiesOperand cfg, skipOperand cfg⟩
    | _, _, _ => .error .durationMissing

/-- The validation of `JOB_LOAD` (R110): the cause it raises, if any. -/
def imageProblem (image : List Byte) : Option Cause :=
  if image.length = 0 then some .emptyImage
  else if Config.maxBlocks < ceilDiv image.length Config.chunkLen then some .imageTooLarge
  else none

/-- `block_count = ceil(L/16)` as the u16 it fits (R111). -/
def blockCountOf (image : List Byte) : Word := BitVec.ofNat 16 (ceilDiv image.length Config.chunkLen)

end Sys2Proof.Machine
end

