-- ==== Sys2Proof/Machine/Ops.lean ====
section
/-! DEFINITION. The named operations every meaning is built from: the image memory, the outputs, the
counters, entry to and exit from each sequencer state, taking a failure (`State.fail`, R175) and the
session's release beside it (`State.release`, R202). -/

namespace Sys2Proof.Machine

/-! ### The job image (R29, R40, R41) -/

/-- The canonical form: addresses strictly rising. -/
def Memory.wf : Memory → Bool
  | [] => true
  | [_] => true
  | (a, _) :: (b, y) :: m => decide (a < b) && Memory.wf ((b, y) :: m)

/-- The byte at an address; none where no byte exists. -/
def Memory.read : Memory → Nat → Option Byte
  | [], _ => none
  | (a, x) :: m, k => if a = k then some x else Memory.read m k

/-- The bytes `bs` placed at `a, a+1, ...`. -/
def Memory.ofBytesAt : Nat → List Byte → Memory
  | _, [] => []
  | a, x :: bs => (a, x) :: Memory.ofBytesAt (a + 1) bs

/-- The image `IMG[0..L-1]` of a request (R29). -/
def Memory.ofBytes (image : List Byte) : Memory := Memory.ofBytesAt 0 image

/-- The bytes at `addr, ..., addr+n-1`; none when one of them does not exist. -/
def Memory.readBytes (m : Memory) : Nat → Nat → Option (List Byte)
  | _, 0 => some []
  | addr, n + 1 =>
    match Memory.read m addr, Memory.readBytes m (addr + 1) n with
    | some x, some xs => some (x :: xs)
    | _, _ => none

/-- `MemRead(addr, n)` (R41): defined only for `addr + n <= IMG_LEN`, refused past it (U21). A byte that
`IMG_LEN` covers and the memory does not list is a fault (log 11). -/
def memRead (s : State) (addr n : Nat) : Host.Outcome (List Byte) Fault Refusal :=
  if addr + n ≤ s.imgLen then
    match s.img.readBytes addr n with
    | some bs => .next bs
    | none => .fault (.imageAddressAbsent addr)
  else .refused (.readPastImage addr n)

/-- `CHUNK(i)` (R112): the 16 bytes from `16*i`, the last chunk zero-padded. -/
def chunkAt (i : Nat) (s : State) : Host.Outcome (List Byte) Fault Refusal :=
  if s.phase = .idle then .refused .noSession
  else if i < s.blockCount.toNat then
    let a := Config.chunkLen * i
    let k := min Config.chunkLen (s.imgLen - a)
    match memRead s a k with
    | .next bs => .next (bs ++ zeros (Config.chunkLen - k))
    | .fault f => .fault f
    | .refused r => .refused r
  else .refused (.chunkOutOfRange i)

/-! ### Outputs (R120) -/

/-- `tx(f)`: one frame handed to the transport (R48). -/
def State.send (f : List Byte) (s : State) : State := { s with tx := s.tx ++ [f] }

/-- `print_rsp(r)`. -/
def State.respond (r : Response) (s : State) : State := { s with responses := s.responses ++ [r] }

/-- The value of an operation, returned on its port. -/
def State.giveResult (r : OpResult) (s : State) : State := { s with results := s.results ++ [r] }

/-! ### Counters and pending writes (R100, R101, R114, R129) -/

/-- `OUTSTANDING <- OUTSTANDING + 1` (R100). -/
def State.takeSlot (s : State) : State := { s with outstanding := s.outstanding + 1 }

/-- `OUTSTANDING <- OUTSTANDING - 1` (R101). -/
def State.returnSlot (s : State) : State := { s with outstanding := s.outstanding - 1 }

/-- `CTRL_PENDING <- false`. -/
def State.retireCtrl (s : State) : State := { s with ctrlPending := false }

/-- Retire the write a `txdone` answers (R129, R139): the control write if one is pending, otherwise
`RELEASE`. Used only when a write is pending. -/
def State.retireWrite (s : State) : State := if s.ctrlPending = true then s.retireCtrl else s.returnSlot

/-- A control frame handed over: `tx(f)`, `CTRL_PENDING <- true` (R125, R133). -/
def State.issueControl (f : List Byte) (s : State) : State := { s.send f with ctrlPending := true }

/-- The effect of `NEXT_BLOCK` (R114) with the frame `f`: take a slot, send, advance the index. -/
def State.emitBlock (f : List Byte) (s : State) : State :=
  { s.takeSlot.send f with nextIndex := s.nextIndex + 1 }

/-! ### Entry to the sequencer states -/

/-- `T1` (R121): `STATE <- AwaitingStatus`, the status-wait timer started. -/
def State.enterAwaitingStatus (s : State) : State :=
  { s with phase := .awaitingStatus, timers := { s.timers with status := true } }

/-- `T2` (R123, R124): `STATE <- Starting`, the status-wait timer stopped. -/
def State.enterStarting (s : State) : State :=
  { s with phase := .starting, timers := { s.timers with status := false } }

/-- `CAP[i] <- w_i`, `CAP_VALID <- true` (R123). -/
def State.latchCaps (f : ControlFrame) (s : State) : State :=
  { s with capValid := true, cap := ⟨f.w1, f.w2, f.w3, f.w4, f.w5⟩ }

/-- `T3` second half (R126). -/
def State.enterStreaming (s : State) : State := { s with ctrlPending := false, phase := .streaming }

/-- `T5` (R131): `STATE <- AwaitingCompletion`, the completion-wait timer started. -/
def State.enterAwaitingCompletion (s : State) : State :=
  { s with phase := .awaitingCompletion, timers := { s.timers with complete := true } }

/-- `T6` (R132): `STATE <- Acknowledging`, the completion-wait timer stopped. -/
def State.enterAcknowledging (s : State) : State :=
  { s with phase := .acknowledging, timers := { s.timers with complete := false } }

/-- `T7` second half (R134): `Done`, `print_rsp(Ok)`, the grace timer started. -/
def State.enterDone (s : State) : State :=
  { s.respond .ok with
    ctrlPending := false, phase := .done, timers := { s.timers with grace := true } }

/-! ### Failure and release -/

/-- `fail(cause)` (R175), the block's trap entry: `CAUSE`, `STATE`, the answer to the caller, all
three timers stopped; everything else is kept. -/
def State.fail (c : Cause) (s : State) : State :=
  { s.respond (.err c) with cause := some c, phase := .failed, timers := .off }

/-- Free values for `CAP[1..5]` (log 5). -/
def freeCaps (n : Nat) : Caps :=
  ⟨Config.freeWord n, Config.freeWord (n + 1), Config.freeWord (n + 2), Config.freeWord (n + 3),
    Config.freeWord (n + 4)⟩

/-- `release_session` (R138, R139, R202): `STATE <- Idle`, the job image and the session registers
discarded. `OUTSTANDING` and `CTRL_PENDING` are not written: they hold their values "by its guard,
not by force" (R202; log 25). Registers left unspecified take free values (log 5). -/
def State.release (s : State) : State :=
  { s with
    phase := .idle
    cause := none
    blockCount := Config.freeWord (s.freeCount + 5)
    copies := Config.freeWord (s.freeCount + 6)
    nextIndex := Config.freeWord (s.freeCount + 7)
    capValid := false
    cap := freeCaps s.freeCount
    window := Config.freeWord (s.freeCount + 8)
    tStatus := Config.freeDuration s.freeCount
    tComplete := Config.freeDuration (s.freeCount + 1)
    tGrace := Config.freeDuration (s.freeCount + 2)
    skipStatus := Config.freeBit s.freeCount
    img := []
    imgLen := 0
    timers := .off
    freeCount := s.freeCount + 9 }

/-! ### Job load (R110) -/

/-- The registers as `JOB_LOAD` initialises them (R110, R201); `CAP[1..5]` is unspecified at session
creation (10_state.md section 9) and takes free values (log 5). `STATE` is `T1`'s to write (R121). -/
def State.loadSession (image : List Byte) (c : Latched) (s : State) : State :=
  { s with
    cause := none
    blockCount := blockCountOf image
    copies := c.copies
    nextIndex := 0
    outstanding := 0
    ctrlPending := false
    capValid := false
    cap := freeCaps s.freeCount
    window := c.window
    tStatus := c.tStatus
    tComplete := c.tComplete
    tGrace := c.tGrace
    skipStatus := c.skipStatus
    img := Memory.ofBytes image
    imgLen := image.length
    freeCount := s.freeCount + 5 }

/-- `JOB_LOAD(image, cfg)` in `Idle` (R110): `.next` the loaded state, `.fault` the cause it raises,
`.refused` a configuration outside the modelled space (U23). The image is validated first (log 9). -/
def loadJob (image : List Byte) (cfg : JobConfig) (s : State) : Host.Outcome State Cause Refusal :=
  match imageProblem image with
  | some c => .fault c
  | none =>
    match latch cfg with
    | .error r => .refused r
    | .ok c => .next (s.loadSession image c)

/-! ### Notifications (R123, R130, R132, R135, R137, R139, R142) -/

/-- An undecodable notification in one of the two frame waits (R142): fatal only for a wrong length
and only when `BADLEN_FATAL`. -/
def State.undecodableInWait (k : DecodeKind) (s : State) : State :=
  if k = .badLength ∧ s.badlenFatal = true then s.fail (.decodeError .badLength) else s

/-- One notification, already given to `DEC_CTRL`, consumed in the present state: the `rx` columns
of R143. -/
def State.receive (d : Except DecodeKind ControlFrame) (s : State) : State :=
  match s.phase with
  | .awaitingStatus =>
    match d with
    | .ok f => if f.op = .status then (s.latchCaps f).enterStarting else s
    | .error k => s.undecodableInWait k
  | .awaitingCompletion =>
    match d with
    | .ok f => if f.op = .complete ∧ f.w1 = s.blockCount then s.enterAcknowledging else s
    | .error k => s.undecodableInWait k
  | .idle | .starting | .streaming | .acknowledging | .done | .failed => s

/-! ### Steps that are not taken -/

/-- A step offered while its guard does not hold: it "does not happen and changes nothing" (R100;
log 2). -/
def notTaken (s : State) : Result := .next s

end Sys2Proof.Machine
end

