-- ==== Sys2Proof/Machine/Blocks.lean ====
section
/-! DEFINITION. Job load, chunker and block counter (43_block_counter.md). -/

namespace Sys2Proof.Machine

/-- `JOB_LOAD(image, cfg)` (R110) on its own: the session registers initialised, or the cause raised
and nothing else written; outside `Idle` the precondition fails and the answer is `JobInProgress`.
`STATE` is not written here (log 28). -/
def execJobLoad (image : List Byte) (cfg : JobConfig) (s : State) : Result :=
  if s.phase = .idle then
    match loadJob image cfg s with
    | .next t => .next t
    | .fault c => .next (s.giveResult (.error c))
    | .refused r => .refused r
  else .next (s.giveResult (.error .jobInProgress))

/-- `CHUNK(i)` (R112): the chunk on the operation's port, no session register written. -/
def execChunk (i : Nat) (s : State) : Result :=
  match chunkAt i s with
  | .next bs => .next (s.giveResult (.bytes bs))
  | .fault f => .fault f
  | .refused r => .refused r

/-- `NEXT_BLOCK` (R114), one atomic step: the frame carries `NEXT_INDEX` before the increment. -/
def nextBlockStep (s : State) : Result :=
  if s.NextBlockEnabled then
    match chunkAt s.nextIndex.toNat s with
    | .next payload => .next (s.emitBlock (dataBytes s.nextIndex payload))
    | .fault f => .fault f
    | .refused r => .refused r
  else notTaken s

/-- `NEXT_BLOCK`, the operation (R114). -/
def execOpNextBlock (s : State) : Result := nextBlockStep s

end Sys2Proof.Machine
end

