-- ==== Sys2Proof/Machine/Codec.lean ====
section
/-! DEFINITION. The four codec operations as instructions (41_codec_ops.md): each returns its value or
its error on its own port and touches no session register (R5, R161, R190). -/

namespace Sys2Proof.Machine

/-- The port value of an encoder. -/
def encoded (r : Except Cause (List Byte)) : OpResult :=
  match r with
  | .ok b => .bytes b
  | .error c => .error c

/-- The port value of `DEC_CTRL`. -/
def decodedControl (r : Except DecodeKind ControlFrame) : OpResult :=
  match r with
  | .ok f => .control f
  | .error k => .error (.decodeError k)

/-- The port value of `DEC_DATA`. -/
def decodedData (r : Except DecodeKind DataFrame) : OpResult :=
  match r with
  | .ok f => .data f
  | .error k => .error (.decodeError k)

/-- `ENC_CTRL` (R90). -/
def execEncCtrl (op : Byte) (w1 w2 w3 w4 w5 : Nat) (s : State) : Result :=
  .next (s.giveResult (encoded (encControl op w1 w2 w3 w4 w5)))

/-- `DEC_CTRL` (R91). -/
def execDecCtrl (b : List Byte) (s : State) : Result :=
  .next (s.giveResult (decodedControl (decControl b)))

/-- `ENC_DATA` (R92). -/
def execEncData (index : Nat) (payload : List Byte) (s : State) : Result :=
  .next (s.giveResult (encoded (encData index payload)))

/-- `DEC_DATA` (R93). -/
def execDecData (b : List Byte) (s : State) : Result :=
  .next (s.giveResult (decodedData (decData b)))

end Sys2Proof.Machine
end

