-- ==== Sys2Proof/Machine/Flow.lean ====
section
/-! DEFINITION. The flow controller's two operations (42_flow_control.md). -/

namespace Sys2Proof.Machine

/-- `ACQUIRE` (R100): enabled exactly when `slot_free`; when not enabled it does not happen. Outside a
session `WINDOW` is unspecified and its read is refused (U20; log 10). -/
def execAcquire (s : State) : Result :=
  if s.phase = .idle then .refused .noSession
  else if s.SlotFree then .next s.takeSlot
  else notTaken s

/-- `RELEASE` (R101): at zero it has no meaning (D10). -/
def execRelease (s : State) : Result :=
  if 0 < s.outstanding then .next s.returnSlot else .refused .releaseUnderflow

end Sys2Proof.Machine
end

