-- ==== Sys2Proof/Machine/Frames.lean ====
section
/-! DEFINITION. The six frame kinds as instructions (40_frames.md): a received frame has the effect
its rule gives "on receive"; a frame the host sends is taken exactly when it is the frame the block
hands over next ("on send"), in no other case (R54; log 15). -/

namespace Sys2Proof.Machine

/-- The START frame of the live job (R81). -/
def startFrame (s : State) : List Byte := controlBytes .start s.blockCount s.copies 0 0 0

/-- The ACK frame of the live job (R82). -/
def ackFrame (s : State) : List Byte := controlBytes .start s.blockCount s.ackToken 0 0 0

/-- `STATUS`, received (R80). -/
def execStatus (w1 w2 w3 w4 w5 : Word) (s : State) : Result :=
  .next (s.receive (.ok ⟨.status, w1, w2, w3, w4, w5⟩))

/-- `START` (R81): received it is an echo, observed and discarded; sent it is the first frame of the
job. -/
def execStart (dir : Direction) (w1 w2 w3 w4 w5 : Word) (s : State) : Result :=
  match dir with
  | .received => .next (s.receive (.ok ⟨.start, w1, w2, w3, w4, w5⟩))
  | .sent =>
    if s.IssueStartEnabled ∧ w1 = s.blockCount ∧ w2 = s.copies ∧ w3 = 0 ∧ w4 = 0 ∧ w5 = 0 then
      .next (s.issueControl (controlBytes .start w1 w2 w3 w4 w5))
    else notTaken s

/-- `ACK` (R82): received it is an echo with the token (opcode `Start`, R65); sent it is the last
frame of the job. -/
def execAck (dir : Direction) (bc token : Word) (s : State) : Result :=
  match dir with
  | .received => .next (s.receive (.ok ⟨.start, bc, token, 0, 0, 0⟩))
  | .sent =>
    if s.IssueAckEnabled ∧ bc = s.blockCount ∧ token = s.ackToken then
      .next (s.issueControl (controlBytes .start bc token 0 0 0))
    else notTaken s

/-- `COMPLETE`, received (R83). -/
def execComplete (w1 w2 w3 w4 w5 : Word) (s : State) : Result :=
  .next (s.receive (.ok ⟨.complete, w1, w2, w3, w4, w5⟩))

/-- `MIDPROGRESS`, received (R84). -/
def execMidProgress (w1 w2 w3 w4 w5 : Word) (s : State) : Result :=
  .next (s.receive (.ok ⟨.midProgress, w1, w2, w3, w4, w5⟩))

/-- `DATA` (R85): a received 20-byte notification is a wrong-length control frame (R49; log 16); sent
it is the block `NEXT_INDEX` of the job (R114). -/
def execData (dir : Direction) (index : Word) (payload : List Byte) (s : State) : Result :=
  match dir with
  | .received => .next (s.receive (.error .badLength))
  | .sent =>
    if s.NextBlockEnabled ∧ index = s.nextIndex then
      match chunkAt s.nextIndex.toNat s with
      | .next c => if payload = c then .next (s.emitBlock (dataBytes index payload)) else notTaken s
      | .fault f => .fault f
      | .refused r => .refused r
    else notTaken s

end Sys2Proof.Machine
end

