-- ==== Sys2Proof/Machine/Sequencer.lean ====
section
/-! DEFINITION. The twenty-two sequencer steps (44_job_sequencer.md). Each meaning is one row: its
guard, its effect, and, outside the guard, no step (`notTaken`, log 2) or the refusal R143 names. -/

namespace Sys2Proof.Machine

/-- `print_req (accept)`, `T1` (R121). -/
def execPrintReqAccept (image : List Byte) (cfg : JobConfig) (s : State) : Result :=
  if s.phase = .idle then
    match loadJob image cfg s with
    | .next t => .next t.enterAwaitingStatus
    | .fault _ => notTaken s
    | .refused r => .refused r
  else notTaken s

/-- `print_req (reject)` (R122): (a) in `Idle`, a cause raised by `JOB_LOAD`; (b) in any other state,
`JobInProgress`. -/
def execPrintReqReject (image : List Byte) (cfg : JobConfig) (s : State) : Result :=
  if s.phase = .idle then
    match loadJob image cfg s with
    | .next _ => notTaken s
    | .fault c => .next (s.respond (.err c))
    | .refused r => .refused r
  else .next (s.respond (.err .jobInProgress))

/-- `rx Status`, `T2a` (R123). -/
def execRxStatus (b : List Byte) (s : State) : Result :=
  if s.phase = .awaitingStatus then
    match decControl b with
    | .ok f => if f.op = .status then .next (s.latchCaps f).enterStarting else notTaken s
    | .error _ => notTaken s
  else notTaken s

/-- `skip_status`, `T2b` (R124). -/
def execSkipStatus (s : State) : Result :=
  if s.phase = .awaitingStatus ∧ s.skipStatus = true then .next s.enterStarting else notTaken s

/-- `t_status`, `T2c` (R124): not an error; stale in every other state (R143). -/
def execTStatus (s : State) : Result :=
  if s.phase = .awaitingStatus then .next s.enterStarting else notTaken s

/-- `issue_start`, `T3` first half (R125). -/
def execIssueStart (s : State) : Result :=
  if s.IssueStartEnabled then .next (s.issueControl (startFrame s)) else notTaken s

/-- `txdone(ok) in Starting`, `T3` second half (R126); refused if not `CTRL_PENDING` (R143). -/
def execTxdoneOkInStarting (s : State) : Result :=
  if s.phase = .starting then
    if s.ctrlPending = true then .next s.enterStreaming else .refused .noWritePending
  else notTaken s

/-- `next_block`, `T4` (R127): the step `NEXT_BLOCK` of R114. -/
def execNextBlock (s : State) : Result := nextBlockStep s

/-- `txdone(ok) in Streaming` (R128): `RELEASE`, then, in the same step, `T5` if `all_sent` has become
true (R131, C10); refused if `OUTSTANDING = 0` (R143). -/
def execTxdoneOkInStreaming (s : State) : Result :=
  if s.phase = .streaming then
    if 0 < s.outstanding then
      if s.returnSlot.AllSent then .next s.returnSlot.enterAwaitingCompletion
      else .next s.returnSlot
    else .refused .noWritePending
  else notTaken s

/-- `txdone(err e)` (R129): the pending write is retired first, then the job fails; in `Failed` it is
only retired (R139); with nothing pending, or in a state with no write of its own, refused (R143). -/
def execTxdoneErr (e : TransportInfo) (s : State) : Result :=
  match s.phase with
  | .starting | .streaming | .acknowledging =>
    if s.WritePending then .next (s.retireWrite.fail (.transportError e)) else .refused .noWritePending
  | .failed => if s.WritePending then .next s.retireWrite else .refused .noWritePending
  | .idle | .awaitingStatus | .awaitingCompletion | .done => .refused .noWritePending

/-- `rx (discard)` (R130; in `Idle` R138, in `Failed` R139): "observed and discarded". No register
changes on any path: where the notification has an effect, another row is the step. -/
def execRxDiscard (_b : List Byte) (s : State) : Result := .next s

/-- `rx Complete (match)`, `T6` (R132). -/
def execRxCompleteMatch (b : List Byte) (s : State) : Result :=
  if s.phase = .awaitingCompletion ∧ isCompleteFor (decControl b) s.blockCount = true then
    .next s.enterAcknowledging
  else notTaken s

/-- `issue_ack`, `T7` first half (R133). -/
def execIssueAck (s : State) : Result :=
  if s.IssueAckEnabled then .next (s.issueControl (ackFrame s)) else notTaken s

/-- `txdone(ok) in Acknowledging`, `T7` second half (R134); refused if not `CTRL_PENDING` (R143). -/
def execTxdoneOkInAcknowledging (s : State) : Result :=
  if s.phase = .acknowledging then
    if s.ctrlPending = true then .next s.enterDone else .refused .noWritePending
  else notTaken s

/-- `rx other (AwaitingCompletion)` (R135): "observed and discarded without changing state". -/
def execRxOtherInAwaitingCompletion (_b : List Byte) (s : State) : Result := .next s

/-- `t_complete` (R136); stale in every other state (R143). -/
def execTComplete (s : State) : Result :=
  if s.phase = .awaitingCompletion then .next (s.fail .jobTimeout) else notTaken s

/-- `rx in Done`, `T8` (R137): no register changes, no second ACK. -/
def execRxInDone (_b : List Byte) (s : State) : Result := .next s

/-- `t_grace` (R138); stale in every other state (R143). -/
def execTGrace (s : State) : Result :=
  if s.phase = .done then .next s.release else notTaken s

/-- `release_session` (R139). -/
def execReleaseSession (s : State) : Result :=
  if s.ReleaseEnabled then .next s.release else notTaken s

/-- `cancel` (R140): `fail(Cancelled)` in the five job states, no effect in `Idle`, `Done`, `Failed`. -/
def execCancel (s : State) : Result :=
  if s.Cancellable then .next (s.fail .cancelled) else .next s

/-- `rx_closed` (R141): no effect on any register, in any state (log 19). -/
def execRxClosed (s : State) : Result := .next s

/-- `rx undecodable (in a wait)` (R142). -/
def execRxUndecodableInWait (b : List Byte) (s : State) : Result :=
  if s.InFrameWait then
    match decControl b with
    | .ok _ => notTaken s
    | .error k => .next (s.undecodableInWait k)
  else notTaken s

end Sys2Proof.Machine
end

