-- ==== Sys2Proof/Machine/Dispatch.lean ====
section
/-! DEFINITION. One arm per constructor of `Instr`, each one direct call of its meaning. -/

namespace Sys2Proof.Machine

def exec (i : Instr) (s : State) : Host.Outcome State Fault Refusal :=
  match i with
  -- frame kinds (40_frames.md)
  | .status w1 w2 w3 w4 w5 => Sys2Proof.Machine.execStatus w1 w2 w3 w4 w5 s
  | .start dir w1 w2 w3 w4 w5 => Sys2Proof.Machine.execStart dir w1 w2 w3 w4 w5 s
  | .ack dir bc token => Sys2Proof.Machine.execAck dir bc token s
  | .complete w1 w2 w3 w4 w5 => Sys2Proof.Machine.execComplete w1 w2 w3 w4 w5 s
  | .midProgress w1 w2 w3 w4 w5 => Sys2Proof.Machine.execMidProgress w1 w2 w3 w4 w5 s
  | .data dir index payload => Sys2Proof.Machine.execData dir index payload s
  -- operations (41_codec_ops.md, 42_flow_control.md, 43_block_counter.md)
  | .encCtrl op w1 w2 w3 w4 w5 => Sys2Proof.Machine.execEncCtrl op w1 w2 w3 w4 w5 s
  | .decCtrl b => Sys2Proof.Machine.execDecCtrl b s
  | .encData index payload => Sys2Proof.Machine.execEncData index payload s
  | .decData b => Sys2Proof.Machine.execDecData b s
  | .acquire => Sys2Proof.Machine.execAcquire s
  | .release => Sys2Proof.Machine.execRelease s
  | .jobLoad image cfg => Sys2Proof.Machine.execJobLoad image cfg s
  | .chunk k => Sys2Proof.Machine.execChunk k s
  | .opNextBlock => Sys2Proof.Machine.execOpNextBlock s
  -- sequencer steps (44_job_sequencer.md)
  | .printReqAccept image cfg => Sys2Proof.Machine.execPrintReqAccept image cfg s
  | .printReqReject image cfg => Sys2Proof.Machine.execPrintReqReject image cfg s
  | .rxStatus b => Sys2Proof.Machine.execRxStatus b s
  | .skipStatus => Sys2Proof.Machine.execSkipStatus s
  | .tStatus => Sys2Proof.Machine.execTStatus s
  | .issueStart => Sys2Proof.Machine.execIssueStart s
  | .txdoneOkInStarting => Sys2Proof.Machine.execTxdoneOkInStarting s
  | .nextBlock => Sys2Proof.Machine.execNextBlock s
  | .txdoneOkInStreaming => Sys2Proof.Machine.execTxdoneOkInStreaming s
  | .txdoneErr e => Sys2Proof.Machine.execTxdoneErr e s
  | .rxDiscard b => Sys2Proof.Machine.execRxDiscard b s
  | .rxCompleteMatch b => Sys2Proof.Machine.execRxCompleteMatch b s
  | .issueAck => Sys2Proof.Machine.execIssueAck s
  | .txdoneOkInAcknowledging => Sys2Proof.Machine.execTxdoneOkInAcknowledging s
  | .rxOtherInAwaitingCompletion b => Sys2Proof.Machine.execRxOtherInAwaitingCompletion b s
  | .tComplete => Sys2Proof.Machine.execTComplete s
  | .rxInDone b => Sys2Proof.Machine.execRxInDone b s
  | .tGrace => Sys2Proof.Machine.execTGrace s
  | .releaseSession => Sys2Proof.Machine.execReleaseSession s
  | .cancel => Sys2Proof.Machine.execCancel s
  | .rxClosed => Sys2Proof.Machine.execRxClosed s
  | .rxUndecodableInWait b => Sys2Proof.Machine.execRxUndecodableInWait b s

end Sys2Proof.Machine
end

