-- ==== Sys2Proof/Machine/Deliver.lean ====
section
/-! DEFINITION. Which instruction an input runs in the present state: the rows and columns of the
table of R143. -/

namespace Sys2Proof.Machine

/-- The row that a notification which does not decode is (R142, R137, R130). -/
def undecodableRow (b : List Byte) (s : State) : Instr :=
  match s.phase with
  | .awaitingStatus | .awaitingCompletion => .rxUndecodableInWait b
  | .done => .rxInDone b
  | .idle | .starting | .streaming | .acknowledging | .failed => .rxDiscard b

/-- `rx(b)` (R179): the notification is decoded and its frame runs; what does not decode runs its row. -/
def deliverRx (b : List Byte) (s : State) : Result :=
  match decode b with
  | .ok i => exec i s
  | .error _ => exec (undecodableRow b s) s

/-- `print_req(image, cfg)` (R121, R122): the reject row when a session is live or the image is
refused, the accept row otherwise (log 24). -/
def deliverPrintReq (image : List Byte) (cfg : JobConfig) (s : State) : Result :=
  if s.phase ≠ .idle ∨ (imageProblem image).isSome = true then exec (.printReqReject image cfg) s
  else exec (.printReqAccept image cfg) s

/-- `txdone(ok)` in `Failed`: it retires one pending write and changes nothing else (R139); the
opcode table has no row for this cell of R143 (log 23). -/
def absorbTxdoneOk (s : State) : Result :=
  if s.WritePending then .next s.retireWrite else .refused .noWritePending

/-- `txdone(ok)`: the row of the present state (R143). -/
def deliverTxdoneOk (s : State) : Result :=
  match s.phase with
  | .starting => exec .txdoneOkInStarting s
  | .streaming => exec .txdoneOkInStreaming s
  | .acknowledging => exec .txdoneOkInAcknowledging s
  | .failed => absorbTxdoneOk s
  | .idle | .awaitingStatus | .awaitingCompletion | .done => .refused .noWritePending

/-- The row of a spontaneous step (R120). -/
def spontaneousRow : Spontaneous → Instr
  | .skipStatus => .skipStatus
  | .issueStart => .issueStart
  | .nextBlock => .nextBlock
  | .issueAck => .issueAck
  | .releaseSession => .releaseSession

/-- The instruction of a call on a codec port (R5). -/
def codecRow : CodecCall → Instr
  | .encCtrl op w1 w2 w3 w4 w5 => .encCtrl op w1 w2 w3 w4 w5
  | .decCtrl b => .decCtrl b
  | .encData index payload => .encData index payload
  | .decData b => .decData b

/-- One input consumed in the present state (R143). -/
def deliver (e : Event) (s : State) : Result :=
  match e with
  | .printReq image cfg => deliverPrintReq image cfg s
  | .rx b => deliverRx b s
  | .rxClosed => exec .rxClosed s
  | .txdoneOk => deliverTxdoneOk s
  | .txdoneErr e => exec (.txdoneErr e) s
  | .tStatus => exec .tStatus s
  | .tComplete => exec .tComplete s
  | .tGrace => exec .tGrace s
  | .cancel => exec .cancel s
  | .spontaneous k => exec (spontaneousRow k) s
  | .codec c => exec (codecRow c) s

end Sys2Proof.Machine
end

