-- ==== Sys2Proof/Machine/Step.lean ====
section
/-! DEFINITION. One step of the block (R120): the next entry of the serialised input is consumed. -/

namespace Sys2Proof.Machine

/-- One atomic step (R51, R120). With nothing left to consume the block waits, unchanged (log 3). -/
def step (s : State) : Host.Outcome State Fault Refusal :=
  match s.inbox with
  | [] => .next s
  | e :: rest => deliver e { s with inbox := rest }

/-- The frame whose bits are `w` placed as the next notification (log 22). -/
def State.withFetchWord (s : State) (nbits w : Nat) : State :=
  { s with inbox := .rx (tableWordBytes nbits w) :: s.inbox }

end Sys2Proof.Machine
end

