-- ==== Sys2Proof/Safety.lean ====
section
/-! DEFINITION. What counts as a safe run: the invariants of 10_state.md section 8 and the properties
that make them inductive, and the frames a job puts on the wire (R54, R86). -/

namespace Sys2Proof.Machine

/-- R35, in its own words: what holds while a session is live. -/
structure State.SessionBounds (s : State) : Prop where
  outstanding_le_window : s.outstanding ≤ s.window
  index_le_count : s.nextIndex ≤ s.blockCount
  count_pos : 1 ≤ s.blockCount
  count_le : s.blockCount.toNat ≤ 65535
  count_eq : s.blockCount.toNat = ceilDiv s.imgLen 16
  outstanding_le_index : s.outstanding ≤ s.nextIndex
  outstanding_where : 0 < s.outstanding → s.phase = .streaming ∨ s.phase = .failed
  ctrl_where : s.ctrlPending = true → s.phase = .starting ∨ s.phase = .acknowledging ∨ s.phase = .failed
  not_both : ¬(s.ctrlPending = true ∧ 0 < s.outstanding)

/-- What R200 says of the block when no session is live. -/
structure State.NoSession (s : State) : Prop where
  outstanding_zero : s.outstanding = 0
  ctrl_clear : s.ctrlPending = false
  cap_clear : s.capValid = false
  no_image : s.img = [] ∧ s.imgLen = 0

/-- The causes that can stand in `CAUSE` (R15, R170). -/
def State.CauseLegal (s : State) (c : Cause) : Prop :=
  match c with
  | .transportError _ | .jobTimeout | .cancelled => True
  | .decodeError .badLength => s.badlenFatal = true
  | .decodeError .unknownOpcode | .encodingError | .imageTooLarge | .jobInProgress | .emptyImage => False

/-- The invariant of the block: R35 while busy, R200 while not, and what relates `STATE` to the other
registers (R15, R29, R131, R170, R191, C10). -/
structure State.Inv (s : State) : Prop where
  bounds : s.Busy → s.SessionBounds
  no_session : s.phase = .idle → s.NoSession
  image_held : s.Busy → ∃ image : List Byte, image.length = s.imgLen ∧ s.img = Memory.ofBytes image
  window_pos : s.Busy → 1 ≤ s.window
  cause_iff : s.cause.isSome = true ↔ s.phase = .failed
  cause_legal : ∀ c, s.cause = some c → s.CauseLegal c
  before_data : s.phase = .awaitingStatus ∨ s.phase = .starting → s.nextIndex = 0
  not_all_sent : s.phase = .streaming → ¬ s.AllSent
  all_issued : s.phase = .awaitingCompletion ∨ s.phase = .acknowledging ∨ s.phase = .done → s.AllIssued
  cap_unread : s.phase = .awaitingStatus → s.capValid = false
  timers_running : s.timers =
    ⟨decide (s.phase = .awaitingStatus), decide (s.phase = .awaitingCompletion), decide (s.phase = .done)⟩

/-- Chunk `i` of an image, from the words of R112 and R113: 16 bytes from `16*i`, zero-padded. -/
def chunkOf (image : List Byte) (i : Nat) : List Byte :=
  let part := (image.drop (16 * i)).take 16
  part ++ zeros (16 - part.length)

/-- The data frames with indices `0, ..., n-1` of an image (R86, R116). -/
def dataFramesOf (image : List Byte) (n : Nat) : List (List Byte) :=
  (List.range n).map fun i => dataBytes (BitVec.ofNat 16 i) (chunkOf image i)

/-- The frames of one successful job, in order (R54, R86). -/
def jobFrames (image : List Byte) (s : State) : List (List Byte) :=
  [startFrame s] ++ dataFramesOf image s.blockCount.toNat ++ [ackFrame s]

/-- How many of the job's frames have been handed over, from the registers alone. -/
def framesHandedOver (s : State) : Nat :=
  match s.phase with
  | .idle | .awaitingStatus => 0
  | .starting => if s.ctrlPending = true then 1 else 0
  | .streaming | .awaitingCompletion => 1 + s.nextIndex.toNat
  | .acknowledging => 1 + s.nextIndex.toNat + if s.ctrlPending = true then 1 else 0
  | .done => 1 + s.nextIndex.toNat + 1
  | .failed => 0

/-- The session of `image` has put on the outbound stream, after the frames `before` of earlier
sessions, exactly the first frames of its job: as many as its registers say, or, after a failure, some
number of them (R54). -/
def State.FramesSent (before : List (List Byte)) (image : List Byte) (s : State) : Prop :=
  s.img = Memory.ofBytes image ∧ s.imgLen = image.length ∧
    if s.phase = .failed then ∃ n, s.tx = before ++ (jobFrames image s).take n
    else s.tx = before ++ (jobFrames image s).take (framesHandedOver s)

/-- The image of the job is held, with its block count (R29, R111). -/
def State.HoldsImage (image : List Byte) (s : State) : Prop :=
  s.img = Memory.ofBytes image ∧ s.imgLen = image.length ∧ s.blockCount.toNat = (image.length + 15) / 16

/-- The window a request asks for: 2 when silent, else its own value in 1..65535 (R21, R204). -/
def AsksWindow (cfg : JobConfig) (w : Word) : Prop :=
  (cfg.flowControlWindow = none ∧ w = 2) ∨ (cfg.flowControlWindow = some (w.toNat : Int) ∧ 1 ≤ w)

/-- A request inside the modelled configuration space (U23): a legal window and all three durations. -/
def LegalRequest (cfg : JobConfig) (w : Word) (ts tc tg : Nat) : Prop :=
  AsksWindow cfg w ∧ cfg.statusWaitTimeout = some ts ∧ cfg.completionWaitTimeout = some tc ∧
    cfg.ackDrainGrace = some tg

/-- `t` is `s` with the session registers as `JOB_LOAD` initialises them (R110, R201). Nothing is said
of `CAP[1..5]`, which is unspecified at session creation, nor of the free-value counter. -/
def SessionLoaded (image : List Byte) (cfg : JobConfig) (w : Word) (ts tc tg : Nat) (s t : State) : Prop :=
  ∃ cap n, t = { s with
    cause := none
    blockCount := BitVec.ofNat 16 ((image.length + 15) / 16)
    copies := cfg.copies.getD 1
    nextIndex := 0
    outstanding := 0
    ctrlPending := false
    capValid := false
    cap := cap
    window := w
    tStatus := ts
    tComplete := tc
    tGrace := tg
    skipStatus := cfg.skipStatus.getD false
    img := Memory.ofBytes image
    imgLen := image.length
    freeCount := n }

/-- `t` is `s` with the session released (R138, R202, R200): `Idle`, no cause, no image, `CAP_VALID`
clear, no timer running. Nothing is said of the registers that R200 leaves unspecified. -/
def SessionReleased (s t : State) : Prop :=
  ∃ bc copies ni cap w ts tc tg skip n, t = { s with
    phase := .idle
    cause := none
    blockCount := bc
    copies := copies
    nextIndex := ni
    capValid := false
    cap := cap
    window := w
    tStatus := ts
    tComplete := tc
    tGrace := tg
    skipStatus := skip
    img := []
    imgLen := 0
    timers := ⟨false, false, false⟩
    freeCount := n }

/-- The inputs of one undisturbed job of `n` blocks, each write confirmed before the next (section 10
of 44_job_sequencer.md with the status wait timed out). -/
def jobSchedule (image : List Byte) (cfg : JobConfig) (n : Nat) (complete : List Byte) : List Event :=
  [.printReq image cfg, .tStatus, .spontaneous .issueStart, .txdoneOk]
    ++ (List.replicate n [.spontaneous .nextBlock, .txdoneOk]).flatten
    ++ [.rx complete, .spontaneous .issueAck, .txdoneOk, .tGrace]

end Sys2Proof.Machine
end

