-- ==== Sys2Proof/Certificates/Slice0/Obligations.lean ====
section
/-! DEFINITION. The statements for the provers. Each docstring names the rules of spec/ it formalises;
log `n` is notes/assumptions/n.md. -/

open Sys2Proof Sys2Proof.Machine

/-! ### The codec (30_encoding.md, 41_codec_ops.md) -/

/-- Words written out from the layouts of R60, R61 and from 95_test_vectors.md C1 to C4, X1, and what
they decode to. -/
def Obligations.WrittenFramesDecode : Prop :=
  decode [0x04, 0x00, 0x3A, 0x00, 0x01, 0x00, 0x00, 0x00, 0x00, 0x00, 0x00, 0x00]
      = .ok (.start .received 58 1 0 0 0)
  ∧ decode [0x06, 0xFF, 0x3A, 0x00, 0x01, 0x00, 0x02, 0x00, 0x03, 0x00, 0x04, 0x00]
      = .ok (.complete 58 1 2 3 4)
  ∧ decode [0x07, 0x00, 0xFF, 0xFF, 0x00, 0x00, 0x00, 0x00, 0x00, 0x00, 0x00, 0x80]
      = .ok (.midProgress 65535 0 0 0 32768)
  ∧ decode [0x02, 0x00, 0x34, 0x12, 0xCD, 0xAB, 0x01, 0x00, 0x00, 0x80, 0xFF, 0xFF]
      = .ok (.status 0x1234 0xABCD 1 0x8000 0xFFFF)
  ∧ decode ([0x55, 0x00, 0x39, 0x00] ++ List.replicate 16 0xAA)
      = .ok (.data .received 57 (List.replicate 16 0xAA))
  ∧ decode [0x5A, 0x06, 0x00, 0x3A, 0x01, 0x00, 0x00, 0x00, 0x00, 0x00, 0x00, 0x00]
      = .error .unknownOpcode
  ∧ decode [0x06, 0x00, 0x3A, 0x00, 0x01, 0x00, 0x00, 0x00, 0x00, 0x00, 0x00] = .error .badLength

/-- Decode and encode agree, for every well-formed instruction that has an encoding: what is read back
is the instruction as the wire keeps it (a received frame; an ACK is opcode `Start`, R65). -/
def Obligations.DecodeOfEncodeIsTheFrame : Prop :=
  ∀ (i : Instr) (b : List Byte), i.wf = true → encode i = some b → decode b = .ok i.onWire

/-- R94, all five laws. -/
def Obligations.CodecRoundTripLaws : Prop :=
  (∀ (op : Opcode) (w1 w2 w3 w4 w5 : Word), ∃ b,
    encControl op.code w1.toNat w2.toNat w3.toNat w4.toNat w5.toNat = .ok b ∧
      decControl b = .ok ⟨op, w1, w2, w3, w4, w5⟩)
  ∧ (∀ (index : Word) (payload : List Byte), payload.length = 16 → ∃ b,
      encData index.toNat payload = .ok b ∧ decData b = .ok ⟨index, payload⟩)
  ∧ (∀ b : List Byte, b.length = 12 → (∃ op : Opcode, b[0]? = some op.code) → ∃ f,
      decControl b = .ok f ∧
        (encControl f.op.code f.w1.toNat f.w2.toNat f.w3.toNat f.w4.toNat f.w5.toNat = .ok b
          ↔ b[1]? = some 0))
  ∧ (∀ b : List Byte, b.length = 20 → b[0]? = some 0x55 → b[1]? = some 0x00 → ∃ f,
      decData b = .ok f ∧ encData f.index.toNat f.payload = .ok b)
  ∧ (∀ (op op' : Byte) (w1 w2 w3 w4 w5 v1 v2 v3 v4 v5 : Nat) (b : List Byte),
      encControl op w1 w2 w3 w4 w5 = .ok b → encControl op' v1 v2 v3 v4 v5 = .ok b →
        op = op' ∧ w1 = v1 ∧ w2 = v2 ∧ w3 = v3 ∧ w4 = v4 ∧ w5 = v5)
  ∧ (∀ (i j : Nat) (p q : List Byte) (b : List Byte),
      encData i p = .ok b → encData j q = .ok b → i = j ∧ p = q)

/-- R90: `ENC_CTRL` returns the twelve bytes when the opcode byte is one of the four and every word
fits 16 bits, `EncodingError` otherwise, and touches nothing else. -/
def Obligations.EncCtrlReturnsTheFrameOrEncodingError : Prop :=
  ∀ (op : Byte) (w1 w2 w3 w4 w5 : Nat) (s : State),
    ((op = 0x02 ∨ op = 0x04 ∨ op = 0x06 ∨ op = 0x07) ∧
        w1 ≤ 65535 ∧ w2 ≤ 65535 ∧ w3 ≤ 65535 ∧ w4 ≤ 65535 ∧ w5 ≤ 65535 →
      exec (.encCtrl op w1 w2 w3 w4 w5) s = .next { s with results := s.results ++ [.bytes
        [op, 0x00,
          BitVec.ofNat 8 (w1 % 256), BitVec.ofNat 8 (w1 / 256),
          BitVec.ofNat 8 (w2 % 256), BitVec.ofNat 8 (w2 / 256),
          BitVec.ofNat 8 (w3 % 256), BitVec.ofNat 8 (w3 / 256),
          BitVec.ofNat 8 (w4 % 256), BitVec.ofNat 8 (w4 / 256),
          BitVec.ofNat 8 (w5 % 256), BitVec.ofNat 8 (w5 / 256)]] })
    ∧ (¬((op = 0x02 ∨ op = 0x04 ∨ op = 0x06 ∨ op = 0x07) ∧
        w1 ≤ 65535 ∧ w2 ≤ 65535 ∧ w3 ≤ 65535 ∧ w4 ≤ 65535 ∧ w5 ≤ 65535) →
      exec (.encCtrl op w1 w2 w3 w4 w5) s =
        .next { s with results := s.results ++ [.error .encodingError] })

/-- R91: `DEC_CTRL`, total on every byte sequence, length before opcode, words little-endian and
zero-extended, `pad` not examined; nothing else is touched. -/
def Obligations.DecCtrlReturnsTheWordsOrDecodeError : Prop :=
  ∀ (b : List Byte) (s : State),
    (b.length ≠ 12 →
      exec (.decCtrl b) s =
        .next { s with results := s.results ++ [.error (.decodeError .badLength)] })
    ∧ (∀ (op pad a1 a2 b1 b2 c1 c2 d1 d2 e1 e2 : Byte),
      b = [op, pad, a1, a2, b1, b2, c1, c2, d1, d2, e1, e2] →
      (op ≠ 0x02 ∧ op ≠ 0x04 ∧ op ≠ 0x06 ∧ op ≠ 0x07 →
        exec (.decCtrl b) s =
          .next { s with results := s.results ++ [.error (.decodeError .unknownOpcode)] })
      ∧ (∀ o : Opcode, op = o.code →
        exec (.decCtrl b) s = .next { s with results := s.results ++ [.control
          ⟨o, BitVec.ofNat 16 (a1.toNat + 256 * a2.toNat), BitVec.ofNat 16 (b1.toNat + 256 * b2.toNat),
            BitVec.ofNat 16 (c1.toNat + 256 * c2.toNat), BitVec.ofNat 16 (d1.toNat + 256 * d2.toNat),
            BitVec.ofNat 16 (e1.toNat + 256 * e2.toNat)⟩] }))

/-- R92: `ENC_DATA` returns the twenty bytes for a payload of 16 and an index up to 65535,
`EncodingError` otherwise; nothing else is touched. -/
def Obligations.EncDataReturnsTheFrameOrEncodingError : Prop :=
  ∀ (index : Nat) (payload : List Byte) (s : State),
    (payload.length = 16 ∧ index ≤ 65535 →
      exec (.encData index payload) s = .next { s with results := s.results ++ [.bytes
        ([0x55, 0x00, BitVec.ofNat 8 (index % 256), BitVec.ofNat 8 (index / 256)] ++ payload)] })
    ∧ (¬(payload.length = 16 ∧ index ≤ 65535) →
      exec (.encData index payload) s =
        .next { s with results := s.results ++ [.error .encodingError] })

/-- R93: `DEC_DATA`: length, then both marker bytes, then index and payload; nothing else is
touched. -/
def Obligations.DecDataReturnsTheBlockOrDecodeError : Prop :=
  ∀ (b : List Byte) (s : State),
    (b.length ≠ 20 →
      exec (.decData b) s =
        .next { s with results := s.results ++ [.error (.decodeError .badLength)] })
    ∧ (∀ (m0 m1 lo hi : Byte) (payload : List Byte), payload.length = 16 →
      b = [m0, m1, lo, hi] ++ payload →
      (¬(m0 = 0x55 ∧ m1 = 0x00) →
        exec (.decData b) s =
          .next { s with results := s.results ++ [.error (.decodeError .unknownOpcode)] })
      ∧ (m0 = 0x55 ∧ m1 = 0x00 →
        exec (.decData b) s = .next { s with results := s.results ++ [.data
          ⟨BitVec.ofNat 16 (lo.toNat + 256 * hi.toNat), payload⟩] }))

/-! ### Steps and what they run -/

/-- When the head of the inbox is a notification that decodes to an instruction, a step consumes it
and is that instruction's `exec` (R49, R50, R179). -/
def Obligations.StepRunsTheDecodedFrame : Prop :=
  ∀ (s : State) (b : List Byte) (rest : List Event) (i : Instr),
    s.inbox = .rx b :: rest → decode b = .ok i →
      step s = exec i { s with inbox := rest }

/-- Every other input runs its instruction. An input event runs the row that R143 names for the present
state; that a print request picks between its two rows as it does is the model's reading (log 24), and
the cell `txdone(ok)` in `Failed` has no row (log 23). An offered spontaneous step (R120) runs its own row;
that offers are entries of the inbox is the model's choice (log 1). A call on a codec port runs the codec
operation: that is no row of R143, it rests on R5 and on the model's inference that such a call may stand
anywhere in the inbox (log 18). -/
def Obligations.StepRunsTheRowOfEachEvent : Prop :=
  ∀ (s : State) (rest : List Event),
    (∀ image cfg, s.inbox = .printReq image cfg :: rest →
      (s.phase = .idle → 1 ≤ image.length → image.length ≤ 1048560 →
        step s = exec (.printReqAccept image cfg) { s with inbox := rest })
      ∧ (s.phase ≠ .idle ∨ image.length = 0 ∨ 1048560 < image.length →
        step s = exec (.printReqReject image cfg) { s with inbox := rest }))
    ∧ (s.inbox = .txdoneOk :: rest →
      (s.phase = .starting → step s = exec .txdoneOkInStarting { s with inbox := rest })
      ∧ (s.phase = .streaming → step s = exec .txdoneOkInStreaming { s with inbox := rest })
      ∧ (s.phase = .acknowledging → step s = exec .txdoneOkInAcknowledging { s with inbox := rest }))
    ∧ (∀ e, s.inbox = .txdoneErr e :: rest → step s = exec (.txdoneErr e) { s with inbox := rest })
    ∧ (s.inbox = .rxClosed :: rest → step s = exec .rxClosed { s with inbox := rest })
    ∧ (s.inbox = .tStatus :: rest → step s = exec .tStatus { s with inbox := rest })
    ∧ (s.inbox = .tComplete :: rest → step s = exec .tComplete { s with inbox := rest })
    ∧ (s.inbox = .tGrace :: rest → step s = exec .tGrace { s with inbox := rest })
    ∧ (s.inbox = .cancel :: rest → step s = exec .cancel { s with inbox := rest })
    ∧ (s.inbox = .spontaneous .skipStatus :: rest → step s = exec .skipStatus { s with inbox := rest })
    ∧ (s.inbox = .spontaneous .issueStart :: rest → step s = exec .issueStart { s with inbox := rest })
    ∧ (s.inbox = .spontaneous .nextBlock :: rest → step s = exec .nextBlock { s with inbox := rest })
    ∧ (s.inbox = .spontaneous .issueAck :: rest → step s = exec .issueAck { s with inbox := rest })
    ∧ (s.inbox = .spontaneous .releaseSession :: rest →
        step s = exec .releaseSession { s with inbox := rest })
    ∧ (∀ op w1 w2 w3 w4 w5, s.inbox = .codec (.encCtrl op w1 w2 w3 w4 w5) :: rest →
        step s = exec (.encCtrl op w1 w2 w3 w4 w5) { s with inbox := rest })
    ∧ (∀ b, s.inbox = .codec (.decCtrl b) :: rest →
        step s = exec (.decCtrl b) { s with inbox := rest })
    ∧ (∀ i p, s.inbox = .codec (.encData i p) :: rest →
        step s = exec (.encData i p) { s with inbox := rest })
    ∧ (∀ b, s.inbox = .codec (.decData b) :: rest →
        step s = exec (.decData b) { s with inbox := rest })

/-- The `rx` columns of R143: for every notification and every state, the step is the row the table
names. -/
def Obligations.NotificationRunsTheRowOfTheTable : Prop :=
  ∀ (b : List Byte) (s : State),
    (s.phase = .awaitingStatus → isStatus (decControl b) = true →
      deliver (.rx b) s = exec (.rxStatus b) s)
    ∧ (s.phase = .awaitingStatus → isStatus (decControl b) = false →
      undecodable (decControl b) = false → deliver (.rx b) s = exec (.rxDiscard b) s)
    ∧ (s.phase = .awaitingStatus ∨ s.phase = .awaitingCompletion →
      undecodable (decControl b) = true → deliver (.rx b) s = exec (.rxUndecodableInWait b) s)
    ∧ (s.phase = .awaitingCompletion → isCompleteFor (decControl b) s.blockCount = true →
      deliver (.rx b) s = exec (.rxCompleteMatch b) s)
    ∧ (s.phase = .awaitingCompletion → isCompleteFor (decControl b) s.blockCount = false →
      undecodable (decControl b) = false →
        deliver (.rx b) s = exec (.rxOtherInAwaitingCompletion b) s)
    ∧ (s.phase = .done → deliver (.rx b) s = exec (.rxInDone b) s)
    ∧ (s.phase = .idle ∨ s.phase = .starting ∨ s.phase = .streaming ∨ s.phase = .acknowledging
        ∨ s.phase = .failed → deliver (.rx b) s = exec (.rxDiscard b) s)

/-! ### The flow controller (42_flow_control.md) -/

/-- R100: with a session live, `ACQUIRE` adds one when `OUTSTANDING < WINDOW`, without overflow and
never past the window, and otherwise does not happen and changes nothing. -/
def Obligations.AcquireTakesASlotBelowTheWindow : Prop :=
  ∀ s : State, s.phase ≠ .idle →
    (s.outstanding < s.window →
      exec .acquire s = .next { s with outstanding := s.outstanding + 1 } ∧
        (s.outstanding + 1).toNat = s.outstanding.toNat + 1 ∧ s.outstanding + 1 ≤ s.window)
    ∧ (¬ s.outstanding < s.window → exec .acquire s = .next s)

/-- R101: `RELEASE` subtracts one when `OUTSTANDING > 0`; at zero it has no meaning and the model
refuses it. -/
def Obligations.ReleaseReturnsASlotOrIsRefusedAtZero : Prop :=
  ∀ s : State,
    (0 < s.outstanding →
      exec .release s = .next { s with outstanding := s.outstanding - 1 } ∧
        (s.outstanding - 1).toNat + 1 = s.outstanding.toNat)
    ∧ (s.outstanding = 0 → exec .release s = .refused .releaseUnderflow)

/-- R103: at every instant `OUTSTANDING <= WINDOW`. It holds in every state that meets the invariant,
and while a session is live it is inductive by itself, with no other premise. -/
def Obligations.OutstandingNeverExceedsTheWindow : Prop :=
  (∀ s : State, s.Inv → s.outstanding ≤ s.window) ∧
  (∀ s t : State, (s.Busy → s.outstanding ≤ s.window) → step s = .next t →
    t.Busy → t.outstanding ≤ t.window)

/-! ### Job load, chunker, block counter (43_block_counter.md) -/

/-- R110: `JOB_LOAD` in `Idle` initialises every session register, or returns the cause it raises and
writes nothing else. Three points are the model's inference for the operation run on its own (log 28):
`STATE` and the timers stay as they were, its errors are answered on the operation's port, and outside
`Idle` that answer is `JobInProgress` (the `print_rsp` of R122 is the sequencer's). -/
def Obligations.JobLoadInitialisesTheSessionOrRaises : Prop :=
  ∀ (image : List Byte) (cfg : JobConfig) (s : State),
    (s.phase = .idle → image.length = 0 →
      exec (.jobLoad image cfg) s = .next { s with results := s.results ++ [.error .emptyImage] })
    ∧ (s.phase = .idle → 1048560 < image.length →
      exec (.jobLoad image cfg) s = .next { s with results := s.results ++ [.error .imageTooLarge] })
    ∧ (s.phase = .idle → 1 ≤ image.length → image.length ≤ 1048560 →
      ∀ w ts tc tg, LegalRequest cfg w ts tc tg →
        ∃ t, exec (.jobLoad image cfg) s = .next t ∧ SessionLoaded image cfg w ts tc tg s t)
    ∧ (s.phase ≠ .idle →
      exec (.jobLoad image cfg) s = .next { s with results := s.results ++ [.error .jobInProgress] })

/-- R111: the block count of an accepted image of `L` bytes is `ceil(L/16)`, in both forms the rule
gives, and lies in 1..65535. -/
def Obligations.BlockCountIsTheCeilingOfLengthOverSixteen : Prop :=
  ∀ (image : List Byte) (cfg : JobConfig) (s t : State), s.phase = .idle →
    exec (.printReqAccept image cfg) s = .next t → t.phase = .awaitingStatus →
      t.blockCount.toNat = (image.length + 15) / 16 ∧
      t.blockCount.toNat = image.length / 16 + (if image.length % 16 ≠ 0 then 1 else 0) ∧
      1 ≤ t.blockCount.toNat ∧ t.blockCount.toNat ≤ 65535

/-- R112: with the job's image held, `CHUNK(i)` returns its 16 bytes from `16*i`, zero-padded, and
writes no session register; for `i >= BLOCK_COUNT` it is refused. -/
def Obligations.ChunkReturnsTheZeroPaddedSlice : Prop :=
  ∀ (image : List Byte) (i : Nat) (s : State), s.phase ≠ .idle → s.HoldsImage image →
    (i < s.blockCount.toNat →
      exec (.chunk i) s = .next { s with results := s.results ++ [.bytes (
        (image.drop (16 * i)).take (min 16 (image.length - 16 * i)) ++
          List.replicate (16 - min 16 (image.length - 16 * i)) 0)] } ∧
      1 ≤ min 16 (image.length - 16 * i) ∧
      (min 16 (image.length - 16 * i) < 16 → i + 1 = s.blockCount.toNat ∧ image.length % 16 ≠ 0))
    ∧ (s.blockCount.toNat ≤ i → exec (.chunk i) s = .refused (.chunkOutOfRange i))

/-- R113: the chunks of a job, put together, are the image followed by at most 15 zeros. -/
def Obligations.ChunksConcatenateToThePaddedImage : Prop :=
  ∀ (image : List Byte) (s : State), s.phase ≠ .idle → s.HoldsImage image →
    ∃ chunks : List (List Byte), chunks.length = s.blockCount.toNat ∧
      (∀ i c, chunks[i]? = some c → chunkAt i s = .next c) ∧
      chunks.flatten = image ++ List.replicate (16 * s.blockCount.toNat - image.length) 0 ∧
      image.length ≤ 16 * s.blockCount.toNat ∧ 16 * s.blockCount.toNat - image.length ≤ 15

/-- R114 (and R127, the sequencer's name for the same step): under its guard `NEXT_BLOCK` takes a slot,
sends the data frame of `NEXT_INDEX` and increments `NEXT_INDEX` without carry, in one step. -/
def Obligations.NextBlockSendsTheBlockAndAdvances : Prop :=
  ∀ (image : List Byte) (s : State), s.HoldsImage image →
    s.phase = .streaming → s.nextIndex < s.blockCount → s.outstanding < s.window →
      exec .opNextBlock s = .next { s with
        outstanding := s.outstanding + 1
        tx := s.tx ++ [[0x55, 0x00, lo8 s.nextIndex, hi8 s.nextIndex] ++
          chunkOf image s.nextIndex.toNat]
        nextIndex := s.nextIndex + 1 } ∧
      exec .nextBlock s = .next { s with
        outstanding := s.outstanding + 1
        tx := s.tx ++ [[0x55, 0x00, lo8 s.nextIndex, hi8 s.nextIndex] ++
          chunkOf image s.nextIndex.toNat]
        nextIndex := s.nextIndex + 1 } ∧
      (s.nextIndex + 1).toNat = s.nextIndex.toNat + 1 ∧ s.nextIndex + 1 ≤ s.blockCount ∧
      (s.outstanding + 1).toNat = s.outstanding.toNat + 1

/-- R115, R116: within a session a step either leaves `NEXT_INDEX` and sends no data frame, or sends
the data frame that carries `NEXT_INDEX` and increments it, never past `BLOCK_COUNT`. -/
def Obligations.IndexAdvancesOnceForEachDataFrame : Prop :=
  ∀ s t : State, s.Inv → s.Busy → step s = .next t → t.Busy →
    (t.nextIndex = s.nextIndex ∧ ∀ f, t.tx = s.tx ++ [f] → f.length = 12)
    ∨ (t.nextIndex.toNat = s.nextIndex.toNat + 1 ∧ t.nextIndex ≤ t.blockCount ∧
        ∃ payload, payload.length = 16 ∧ t.tx = s.tx ++ [dataBytes s.nextIndex payload])

/-! ### The sequencer steps (44_job_sequencer.md) -/

/-- R121: an accepted print request creates the session, enters `AwaitingStatus`, starts the
status-wait timer and sends nothing. -/
def Obligations.AcceptedRequestCreatesTheSession : Prop :=
  ∀ (image : List Byte) (cfg : JobConfig) (w : Word) (ts tc tg : Nat) (s : State),
    s.phase = .idle → 1 ≤ image.length → image.length ≤ 1048560 → LegalRequest cfg w ts tc tg →
      ∃ t, exec (.printReqAccept image cfg) s = .next t ∧
        SessionLoaded image cfg w ts tc tg
          { s with phase := .awaitingStatus, timers := { s.timers with status := true } } t

/-- R122: a rejected print request answers its cause and changes no register. -/
def Obligations.RejectedRequestOnlyAnswersItsCause : Prop :=
  ∀ (image : List Byte) (cfg : JobConfig) (s : State),
    (s.phase = .idle → image.length = 0 →
      exec (.printReqReject image cfg) s = .next { s with responses := s.responses ++ [.err .emptyImage] })
    ∧ (s.phase = .idle → 1048560 < image.length →
      exec (.printReqReject image cfg) s =
        .next { s with responses := s.responses ++ [.err .imageTooLarge] })
    ∧ (s.phase ≠ .idle →
      exec (.printReqReject image cfg) s =
        .next { s with responses := s.responses ++ [.err .jobInProgress] })

/-- U23 (and R21, R204): in `Idle`, a request with an image that passes validation but a window
outside 1..65535, or without one of the three durations, is refused. That the image is validated
first, and the window before the durations, is the model's choice (log 9). -/
def Obligations.IllegalConfigurationIsRefused : Prop :=
  ∀ (image : List Byte) (cfg : JobConfig) (s : State), s.phase = .idle →
    1 ≤ image.length → image.length ≤ 1048560 →
    ((∃ v : Int, cfg.flowControlWindow = some v ∧ (v < 1 ∨ 65535 < v)) →
      exec (.printReqAccept image cfg) s = .refused .windowOutOfRange ∧
      exec (.printReqReject image cfg) s = .refused .windowOutOfRange ∧
      exec (.jobLoad image cfg) s = .refused .windowOutOfRange)
    ∧ ((∃ w, AsksWindow cfg w) →
      (cfg.statusWaitTimeout = none ∨ cfg.completionWaitTimeout = none ∨ cfg.ackDrainGrace = none) →
      exec (.printReqAccept image cfg) s = .refused .durationMissing ∧
      exec (.printReqReject image cfg) s = .refused .durationMissing ∧
      exec (.jobLoad image cfg) s = .refused .durationMissing)

/-- R123. -/
def Obligations.StatusNotificationEndsTheStatusWait : Prop :=
  ∀ (b : List Byte) (w1 w2 w3 w4 w5 : Word) (s : State),
    s.phase = .awaitingStatus → decControl b = .ok ⟨.status, w1, w2, w3, w4, w5⟩ →
      exec (.rxStatus b) s = .next { s with
        cap := ⟨w1, w2, w3, w4, w5⟩
        capValid := true
        phase := .starting
        timers := { s.timers with status := false } }

/-- R124: both ways out of the status wait without a Status frame; neither is an error. With
`SKIP_STATUS` a Status frame that comes first is still taken, and the two orders end in the same
`STATE` and differ in `CAP_VALID` (and in the words it validates). -/
def Obligations.StatusWaitEndsWithoutAStatusFrame : Prop :=
  (∀ s : State, s.phase = .awaitingStatus →
    exec .tStatus s = .next { s with
      phase := .starting, timers := { s.timers with status := false } })
  ∧ (∀ s : State, s.phase = .awaitingStatus → s.skipStatus = true →
    exec .skipStatus s = .next { s with
      phase := .starting, timers := { s.timers with status := false } })
  ∧ (∀ (b : List Byte) (s : State), s.phase = .awaitingStatus → s.skipStatus = true →
    isStatus (decControl b) = true →
      ∃ t u u', exec (.rxStatus b) s = .next t ∧ exec .skipStatus s = .next u ∧
        deliver (.rx b) u = .next u' ∧ exec .skipStatus t = .next t ∧ t.capValid = true ∧
        t = { u' with capValid := true, cap := t.cap } ∧ u'.capValid = s.capValid)

/-- R125: one Start frame, then the guard is false until `STATE` leaves `Starting`. -/
def Obligations.IssueStartSendsTheStartFrameOnce : Prop :=
  ∀ s : State, s.phase = .starting → s.ctrlPending = false →
    ∃ t, exec .issueStart s = .next t ∧
      t = { s with
        tx := s.tx ++ [[0x04, 0x00, lo8 s.blockCount, hi8 s.blockCount, lo8 s.copies, hi8 s.copies,
          0, 0, 0, 0, 0, 0]]
        ctrlPending := true } ∧
      exec .issueStart t = .next t

/-- R126. -/
def Obligations.StartConfirmationOpensStreaming : Prop :=
  ∀ s : State, s.phase = .starting → s.ctrlPending = true →
    exec .txdoneOkInStarting s = .next { s with ctrlPending := false, phase := .streaming }

/-- R128 with R131: a confirmation returns a slot, and the one that makes `all_sent` true enters
`AwaitingCompletion` and starts its timer in the same step. -/
def Obligations.DataConfirmationReturnsASlotAndMayFinishStreaming : Prop :=
  ∀ s : State, s.phase = .streaming → 0 < s.outstanding →
    (¬(s.nextIndex = s.blockCount ∧ s.outstanding = 1) →
      exec .txdoneOkInStreaming s = .next { s with outstanding := s.outstanding - 1 })
    ∧ (s.nextIndex = s.blockCount ∧ s.outstanding = 1 →
      exec .txdoneOkInStreaming s = .next { s with
        outstanding := 0
        phase := .awaitingCompletion
        timers := { s.timers with complete := true } })

/-- R129 (with R139 for `Failed`): a failed write is retired first, then the job fails with the
transport's own error; in `Failed` it is only retired. -/
def Obligations.WriteFailureRetiresThenFails : Prop :=
  ∀ (e : TransportInfo) (s : State),
    (s.phase = .starting ∨ s.phase = .streaming ∨ s.phase = .acknowledging →
      (s.ctrlPending = true →
        exec (.txdoneErr e) s = .next { s with
          ctrlPending := false
          cause := some (.transportError e)
          phase := .failed
          timers := ⟨false, false, false⟩
          responses := s.responses ++ [.err (.transportError e)] })
      ∧ (s.ctrlPending = false → 0 < s.outstanding →
        exec (.txdoneErr e) s = .next { s with
          outstanding := s.outstanding - 1
          cause := some (.transportError e)
          phase := .failed
          timers := ⟨false, false, false⟩
          responses := s.responses ++ [.err (.transportError e)] }))
    ∧ (s.phase = .failed →
      (s.ctrlPending = true → exec (.txdoneErr e) s = .next { s with ctrlPending := false })
      ∧ (s.ctrlPending = false → 0 < s.outstanding →
        exec (.txdoneErr e) s = .next { s with outstanding := s.outstanding - 1 }))

/-- The steps the spec gives no meaning. The `refused` cells of R143 (U6, D10): a `txdone` that answers
no write, in every state. Outside a session, the operations that would read an unspecified register
(U20; that `ACQUIRE` and `CHUNK` are such reads is the model's reading, log 10). A `MemRead` past the end
of the image (R41, U21). -/
def Obligations.StepsWithoutAMeaningAreRefused : Prop :=
  ∀ (e : TransportInfo) (s : State),
    (s.phase = .idle ∨ s.phase = .awaitingStatus ∨ s.phase = .awaitingCompletion ∨ s.phase = .done →
      deliver .txdoneOk s = .refused .noWritePending ∧
      deliver (.txdoneErr e) s = .refused .noWritePending)
    ∧ (s.ctrlPending = false → s.outstanding = 0 →
      deliver .txdoneOk s = .refused .noWritePending ∧
      deliver (.txdoneErr e) s = .refused .noWritePending)
    ∧ ((s.phase = .starting ∨ s.phase = .acknowledging) → s.ctrlPending = false →
      deliver .txdoneOk s = .refused .noWritePending)
    ∧ (s.phase = .streaming → s.outstanding = 0 → deliver .txdoneOk s = .refused .noWritePending)
    ∧ (s.phase = .idle →
      exec .acquire s = .refused .noSession ∧ ∀ i, exec (.chunk i) s = .refused .noSession)
    ∧ (∀ addr n, s.imgLen < addr + n → memRead s addr n = .refused (.readPastImage addr n))

/-- R130: in `Starting`, `Streaming` and `Acknowledging` every notification, and in `AwaitingStatus`
every well-formed frame other than Status, is consumed with no effect, as row and as input. -/
def Obligations.NotificationOutsideTheWaitsIsDiscarded : Prop :=
  ∀ (b : List Byte) (s : State),
    (s.phase = .starting ∨ s.phase = .streaming ∨ s.phase = .acknowledging ∨
      (s.phase = .awaitingStatus ∧ ∃ f, decControl b = .ok f ∧ f.op ≠ .status)) →
    exec (.rxDiscard b) s = .next s ∧ deliver (.rx b) s = .next s

/-- R132: `w1` alone is compared. -/
def Obligations.MatchingCompleteStartsTheAcknowledgement : Prop :=
  ∀ (b : List Byte) (w2 w3 w4 w5 : Word) (s : State),
    s.phase = .awaitingCompletion →
    decControl b = .ok ⟨.complete, s.blockCount, w2, w3, w4, w5⟩ →
      exec (.rxCompleteMatch b) s = .next { s with
        phase := .acknowledging, timers := { s.timers with complete := false } }

/-- R133: one ACK frame, with the token in `w2`, then the guard is false. -/
def Obligations.IssueAckSendsTheAckFrameOnce : Prop :=
  ∀ s : State, s.phase = .acknowledging → s.ctrlPending = false →
    ∃ t, exec .issueAck s = .next t ∧
      t = { s with
        tx := s.tx ++ [[0x04, 0x00, lo8 s.blockCount, hi8 s.blockCount, lo8 s.ackToken,
          hi8 s.ackToken, 0, 0, 0, 0, 0, 0]]
        ctrlPending := true } ∧
      exec .issueAck t = .next t

/-- R134. -/
def Obligations.AckConfirmationCompletesTheJob : Prop :=
  ∀ s : State, s.phase = .acknowledging → s.ctrlPending = true →
    exec .txdoneOkInAcknowledging s = .next { s with
      ctrlPending := false
      phase := .done
      responses := s.responses ++ [.ok]
      timers := { s.timers with grace := true } }

/-- R135: any well-formed frame that is not the matching Complete changes nothing; the timer keeps
running. -/
def Obligations.OtherFrameLeavesTheCompletionWait : Prop :=
  ∀ (b : List Byte) (f : ControlFrame) (s : State),
    s.phase = .awaitingCompletion → decControl b = .ok f →
    ¬(f.op = .complete ∧ f.w1 = s.blockCount) →
      exec (.rxOtherInAwaitingCompletion b) s = .next s ∧ deliver (.rx b) s = .next s

/-- R136. -/
def Obligations.CompletionTimeoutFailsTheJob : Prop :=
  ∀ s : State, s.phase = .awaitingCompletion →
    exec .tComplete s = .next { s with
      cause := some .jobTimeout
      phase := .failed
      timers := ⟨false, false, false⟩
      responses := s.responses ++ [.err .jobTimeout] }

/-- R137: `Done` absorbs every notification: no register changes, no second ACK. -/
def Obligations.DoneAbsorbsEveryNotification : Prop :=
  ∀ (b : List Byte) (s : State), s.phase = .done →
    exec (.rxInDone b) s = .next s ∧ deliver (.rx b) s = .next s ∧
      ∀ r : List Event, s.inbox = .rx b :: r → step s = .next { s with inbox := r }

/-- R138: the grace timer releases the session; in `Idle` a notification is consumed and discarded. -/
def Obligations.GraceExpiryReleasesTheSession : Prop :=
  (∀ s : State, s.phase = .done → ∃ t, exec .tGrace s = .next t ∧ SessionReleased s t)
  ∧ (∀ (b : List Byte) (s : State), s.phase = .idle → deliver (.rx b) s = .next s)

/-- R139: what `Failed` absorbs, that no spontaneous step sends, what it retires, and when and how it
releases the session. -/
def Obligations.FailedAbsorbsRetiresAndReleases : Prop :=
  ∀ s : State, s.phase = .failed →
    (∀ b, deliver (.rx b) s = .next s) ∧ deliver .rxClosed s = .next s ∧
    deliver .cancel s = .next s ∧ deliver .tStatus s = .next s ∧ deliver .tComplete s = .next s ∧
    deliver .tGrace s = .next s ∧
    (∀ k t, deliver (.spontaneous k) s = .next t → t.tx = s.tx) ∧
    (∀ e, s.ctrlPending = true →
      deliver .txdoneOk s = .next { s with ctrlPending := false } ∧
      deliver (.txdoneErr e) s = .next { s with ctrlPending := false }) ∧
    (∀ e, s.ctrlPending = false → 0 < s.outstanding →
      deliver .txdoneOk s = .next { s with outstanding := s.outstanding - 1 } ∧
      deliver (.txdoneErr e) s = .next { s with outstanding := s.outstanding - 1 }) ∧
    (s.outstanding = 0 → s.ctrlPending = false →
      ∃ t, exec .releaseSession s = .next t ∧ SessionReleased s t) ∧
    (¬(s.outstanding = 0 ∧ s.ctrlPending = false) → exec .releaseSession s = .next s)

/-- R140: `cancel` fails the job in the five job states and has no effect in the other three. -/
def Obligations.CancelFailsTheJobInTheFiveJobStates : Prop :=
  ∀ s : State,
    (s.phase = .awaitingStatus ∨ s.phase = .starting ∨ s.phase = .streaming ∨
        s.phase = .awaitingCompletion ∨ s.phase = .acknowledging →
      exec .cancel s = .next { s with
        cause := some .cancelled
        phase := .failed
        timers := ⟨false, false, false⟩
        responses := s.responses ++ [.err .cancelled] })
    ∧ (s.phase = .idle ∨ s.phase = .done ∨ s.phase = .failed → exec .cancel s = .next s)

/-- R141: the stream-closed event changes no register in any state. -/
def Obligations.StreamClosedChangesNoRegister : Prop :=
  ∀ s : State, exec .rxClosed s = .next s ∧
    ∀ r, s.inbox = .rxClosed :: r → step s = .next { s with inbox := r }

/-- R142: undecodable notifications in the two frame waits. -/
def Obligations.UndecodableNotificationInAWait : Prop :=
  ∀ (b : List Byte) (s : State), s.phase = .awaitingStatus ∨ s.phase = .awaitingCompletion →
    (decControl b = .error .unknownOpcode →
      exec (.rxUndecodableInWait b) s = .next s ∧ deliver (.rx b) s = .next s)
    ∧ (decControl b = .error .badLength → s.badlenFatal = false →
      exec (.rxUndecodableInWait b) s = .next s ∧ deliver (.rx b) s = .next s)
    ∧ (decControl b = .error .badLength → s.badlenFatal = true →
      exec (.rxUndecodableInWait b) s = .next { s with
        cause := some (.decodeError .badLength)
        phase := .failed
        timers := ⟨false, false, false⟩
        responses := s.responses ++ [.err (.decodeError .badLength)] } ∧
      deliver (.rx b) s = exec (.rxUndecodableInWait b) s)

/-- A step offered while its guard does not hold changes nothing: a timer event outside its own state is
stale (last sentence of R143); that every other guarded step reads as R100 says of `ACQUIRE` is the
model's inference (log 2). -/
def Obligations.StepOutsideItsGuardChangesNothing : Prop :=
  ∀ s : State,
    (s.phase ≠ .awaitingStatus → exec .tStatus s = .next s)
    ∧ (s.phase ≠ .awaitingCompletion → exec .tComplete s = .next s)
    ∧ (s.phase ≠ .done → exec .tGrace s = .next s)
    ∧ (¬(s.phase = .awaitingStatus ∧ s.skipStatus = true) → exec .skipStatus s = .next s)
    ∧ (¬(s.phase = .starting ∧ s.ctrlPending = false) → exec .issueStart s = .next s)
    ∧ (¬(s.phase = .streaming ∧ s.nextIndex < s.blockCount ∧ s.outstanding < s.window) →
      exec .nextBlock s = .next s ∧ exec .opNextBlock s = .next s)
    ∧ (¬(s.phase = .acknowledging ∧ s.ctrlPending = false) → exec .issueAck s = .next s)
    ∧ (¬(s.phase = .failed ∧ s.outstanding = 0 ∧ s.ctrlPending = false) →
      exec .releaseSession s = .next s)
    ∧ (s.phase ≠ .starting → exec .txdoneOkInStarting s = .next s)
    ∧ (s.phase ≠ .streaming → exec .txdoneOkInStreaming s = .next s)
    ∧ (s.phase ≠ .acknowledging → exec .txdoneOkInAcknowledging s = .next s)
    ∧ (∀ b, s.phase ≠ .awaitingStatus ∨ isStatus (decControl b) = false →
      exec (.rxStatus b) s = .next s)
    ∧ (∀ b, s.phase ≠ .awaitingCompletion ∨ isCompleteFor (decControl b) s.blockCount = false →
      exec (.rxCompleteMatch b) s = .next s)

/-! ### The frame kinds (40_frames.md) -/

/-- R80: the STATUS frame's bytes, and its effect in every state. -/
def Obligations.StatusFrameIsTakenInTheStatusWaitOnly : Prop :=
  ∀ (w1 w2 w3 w4 w5 : Word) (s : State),
    encode (.status w1 w2 w3 w4 w5) = some [0x02, 0x00, lo8 w1, hi8 w1, lo8 w2, hi8 w2, lo8 w3,
      hi8 w3, lo8 w4, hi8 w4, lo8 w5, hi8 w5]
    ∧ (s.phase = .awaitingStatus → exec (.status w1 w2 w3 w4 w5) s = .next { s with
        cap := ⟨w1, w2, w3, w4, w5⟩
        capValid := true
        phase := .starting
        timers := { s.timers with status := false } })
    ∧ (s.phase ≠ .awaitingStatus → exec (.status w1 w2 w3 w4 w5) s = .next s)

/-- R81: a START received is discarded in every state; a START sent is the first frame of the job,
taken when and only when it is the frame the block is about to hand over. The last clause (any other
sent frame changes nothing) is the model's reading of R54 (log 15). -/
def Obligations.StartFrameSentOrEchoed : Prop :=
  ∀ (w1 w2 w3 w4 w5 : Word) (s : State),
    exec (.start .received w1 w2 w3 w4 w5) s = .next s
    ∧ (s.phase = .starting → s.ctrlPending = false →
        exec (.start .sent s.blockCount s.copies 0 0 0) s = .next { s with
          tx := s.tx ++ [[0x04, 0x00, lo8 s.blockCount, hi8 s.blockCount, lo8 s.copies,
            hi8 s.copies, 0, 0, 0, 0, 0, 0]]
          ctrlPending := true })
    ∧ (¬(s.phase = .starting ∧ s.ctrlPending = false ∧ w1 = s.blockCount ∧ w2 = s.copies ∧
          w3 = 0 ∧ w4 = 0 ∧ w5 = 0) →
        exec (.start .sent w1 w2 w3 w4 w5) s = .next s)

/-- R82: an ACK received (an echo with the token) is discarded in every state; an ACK sent is the last
frame of the job. The last clause is the model's reading of R54 (log 15). -/
def Obligations.AckFrameSentOrEchoed : Prop :=
  ∀ (bc token : Word) (s : State),
    exec (.ack .received bc token) s = .next s
    ∧ (s.phase = .acknowledging → s.ctrlPending = false →
        exec (.ack .sent s.blockCount s.ackToken) s = .next { s with
          tx := s.tx ++ [[0x04, 0x00, lo8 s.blockCount, hi8 s.blockCount, lo8 s.ackToken,
            hi8 s.ackToken, 0, 0, 0, 0, 0, 0]]
          ctrlPending := true })
    ∧ (¬(s.phase = .acknowledging ∧ s.ctrlPending = false ∧ bc = s.blockCount ∧
          token = s.ackToken) →
        exec (.ack .sent bc token) s = .next s)

/-- R83, R84: a COMPLETE ends the completion wait exactly when its `w1` is the block count; in every
other case it, and a MIDPROGRESS in every case, is discarded. -/
def Obligations.CompleteAndMidProgressFrames : Prop :=
  ∀ (w1 w2 w3 w4 w5 : Word) (s : State),
    encode (.complete w1 w2 w3 w4 w5) = some [0x06, 0x00, lo8 w1, hi8 w1, lo8 w2, hi8 w2, lo8 w3,
      hi8 w3, lo8 w4, hi8 w4, lo8 w5, hi8 w5]
    ∧ encode (.midProgress w1 w2 w3 w4 w5) = some [0x07, 0x00, lo8 w1, hi8 w1, lo8 w2, hi8 w2,
      lo8 w3, hi8 w3, lo8 w4, hi8 w4, lo8 w5, hi8 w5]
    ∧ (s.phase = .awaitingCompletion → w1 = s.blockCount →
        exec (.complete w1 w2 w3 w4 w5) s = .next { s with
          phase := .acknowledging, timers := { s.timers with complete := false } })
    ∧ (¬(s.phase = .awaitingCompletion ∧ w1 = s.blockCount) →
        exec (.complete w1 w2 w3 w4 w5) s = .next s)
    ∧ exec (.midProgress w1 w2 w3 w4 w5) s = .next s

/-- R85 with R49: a DATA frame sent is the block `NEXT_INDEX` of the job; a DATA frame received is a
wrong-length notification (discarded, but in a frame wait with `BADLEN_FATAL` it fails the job). The
last clause is the model's reading of R54 (log 15). -/
def Obligations.DataFrameSentOrReceived : Prop :=
  ∀ (index : Word) (payload image : List Byte) (s : State),
    (¬((s.phase = .awaitingStatus ∨ s.phase = .awaitingCompletion) ∧ s.badlenFatal = true) →
      exec (.data .received index payload) s = .next s)
    ∧ ((s.phase = .awaitingStatus ∨ s.phase = .awaitingCompletion) → s.badlenFatal = true →
      exec (.data .received index payload) s = .next { s with
        cause := some (.decodeError .badLength)
        phase := .failed
        timers := ⟨false, false, false⟩
        responses := s.responses ++ [.err (.decodeError .badLength)] })
    ∧ (s.HoldsImage image → s.phase = .streaming → s.nextIndex < s.blockCount →
      s.outstanding < s.window → payload = chunkOf image s.nextIndex.toNat →
        exec (.data .sent s.nextIndex payload) s = .next { s with
          outstanding := s.outstanding + 1
          tx := s.tx ++ [[0x55, 0x00, lo8 s.nextIndex, hi8 s.nextIndex] ++ payload]
          nextIndex := s.nextIndex + 1 })
    ∧ (s.HoldsImage image →
      ¬(s.phase = .streaming ∧ s.nextIndex < s.blockCount ∧ s.outstanding < s.window ∧
        index = s.nextIndex ∧ payload = chunkOf image s.nextIndex.toNat) →
        exec (.data .sent index payload) s = .next s)

/-! ### The whole machine -/

/-- R200: what the spec states of the block after power-on. -/
def Obligations.PowerOnState : Prop :=
  State.reset.phase = .idle ∧ State.reset.outstanding = 0 ∧ State.reset.ctrlPending = false ∧
    State.reset.capValid = false ∧ State.reset.cause = none ∧ State.reset.img = [] ∧
    (∀ a, State.reset.img.read a = none) ∧ State.reset.tx = []

/-- The invariant holds at power-on. -/
def Obligations.PowerOnMeetsTheInvariant : Prop := State.reset.Inv

/-- R35 and what makes it inductive: every step, from every state that meets the invariant, keeps
it. -/
def Obligations.EveryStepKeepsTheInvariant : Prop :=
  ∀ s t : State, s.Inv → step s = .next t → t.Inv

/-- An accepted request starts the frame sequence of its job: nothing of it is on the stream yet. -/
def Obligations.NewSessionHasSentNothing : Prop :=
  ∀ (s t : State) (image : List Byte) (cfg : JobConfig) (rest : List Event),
    s.phase = .idle → s.inbox = .printReq image cfg :: rest → step s = .next t → t.Busy →
      t.FramesSent s.tx image ∧ t.tx = s.tx

/-- R54, R86, R36, R213: from every state of a session, every step that stays in the session keeps the
outbound stream equal to the earlier sessions' frames followed by the first frames of the job, in
order, each once, as many as the registers say. -/
def Obligations.SessionSendsTheFramesOfItsJobInOrder : Prop :=
  ∀ (before : List (List Byte)) (image : List Byte) (s t : State),
    s.Inv → s.Busy → s.FramesSent before image → step s = .next t → t.Busy →
      t.FramesSent before image

/-- R120: a step outputs at most one `tx` and at most one `print_rsp`, and takes back none. -/
def Obligations.StepOutputsAtMostOneFrameAndOneAnswer : Prop :=
  ∀ s t : State, step s = .next t →
    (t.tx = s.tx ∨ ∃ f, t.tx = s.tx ++ [f] ∧ (f.length = 12 ∨ f.length = 20)) ∧
    (t.responses = s.responses ∨ ∃ r, t.responses = s.responses ++ [r])

/-- R190: a notification from the device writes no configuration register, no job register and no
image byte, and sends no frame: at most it moves `STATE` (with its timer and, on failure, the answer)
and latches `CAP`. -/
def Obligations.DeviceCannotWriteConfigurationOrJob : Prop :=
  ∀ (s t : State) (b : List Byte) (rest : List Event),
    s.inbox = .rx b :: rest → step s = .next t →
      t.window = s.window ∧ t.copies = s.copies ∧ t.tStatus = s.tStatus ∧ t.tComplete = s.tComplete ∧
      t.tGrace = s.tGrace ∧ t.skipStatus = s.skipStatus ∧ t.blockCount = s.blockCount ∧
      t.nextIndex = s.nextIndex ∧ t.outstanding = s.outstanding ∧ t.ctrlPending = s.ctrlPending ∧
      t.imgLen = s.imgLen ∧ (∀ a, t.img.read a = s.img.read a) ∧ t.tx = s.tx ∧
      t.results = s.results ∧ t.inbox = rest ∧ t.freeCount = s.freeCount

/-- R204 (R27, R28): `ACK_TOKEN` and `BADLEN_FATAL` are written by no instruction. The last clause, that
no instruction (session creation and release included) touches the inputs not yet consumed, is the
model's: only the step that consumes an input takes it off the queue (R50, log 1), and notifications
outlive a session (R214, log 27). -/
def Obligations.NoInstructionWritesTheParameters : Prop :=
  ∀ (i : Instr) (s t : State), exec i s = .next t →
    t.ackToken = s.ackToken ∧ t.badlenFatal = s.badlenFatal ∧ t.inbox = s.inbox

/-- The frame of the image memory: every instruction but the two that create a session and the two
that release it leaves every byte, and those two pairs load the request's bytes or drop them all; the
canonical form is kept (R29, R41, R202). -/
def Obligations.ImageBytesChangeOnlyWithTheSession : Prop :=
  ∀ (i : Instr) (s t : State), exec i s = .next t →
    (Memory.wf s.img = true → Memory.wf t.img = true) ∧
    ((∀ a, t.img.read a = s.img.read a) ∧ t.imgLen = s.imgLen
      ∨ (∃ image cfg, (i = .jobLoad image cfg ∨ i = .printReqAccept image cfg) ∧ s.phase = .idle ∧
          t.imgLen = image.length ∧ ∀ a, t.img.read a = image[a]?)
      ∨ ((i = .tGrace ∧ s.phase = .done ∨ i = .releaseSession ∧ s.phase = .failed) ∧
          t.imgLen = 0 ∧ ∀ a, t.img.read a = none))

/-- R176, R177: out of `Failed` only `release_session` leads, and while it lasts `CAUSE` is not
rewritten, nothing is sent and no job is answered again. -/
def Obligations.FailedIsLeftOnlyByRelease : Prop :=
  ∀ s t : State, s.phase = .failed → step s = .next t →
    (t.phase = .failed ∧ t.cause = s.cause ∧ t.tx = s.tx ∧
      (t.responses = s.responses ∨ t.responses = s.responses ++ [.err .jobInProgress]))
    ∨ (t.phase = .idle ∧ s.outstanding = 0 ∧ s.ctrlPending = false ∧
      ∃ rest, s.inbox = .spontaneous .releaseSession :: rest)

/-- R137, R138, R177: out of `Done` only the grace timer leads; a success is not turned into a failure
and no second ACK is sent. -/
def Obligations.DoneIsLeftOnlyByTheGraceTimer : Prop :=
  ∀ s t : State, s.phase = .done → step s = .next t →
    t.tx = s.tx ∧ ((t.phase = .done ∧ t.cause = s.cause) ∨
      (t.phase = .idle ∧ ∃ rest, s.inbox = .tGrace :: rest))

/-- R175, R144: whichever step enters `Failed` sets `CAUSE`, answers the caller with that cause, stops
the timers, sends nothing and keeps the job's registers and the counts of pending writes (a `txdone(err
e)` retires the write it answers first, R129); a step enters `Done` with the answer `Ok`. -/
def Obligations.TerminalStatesAreEnteredWithTheirAnswer : Prop :=
  ∀ s t : State, step s = .next t →
    (s.phase ≠ .failed → t.phase = .failed →
      (∃ c, t.cause = some c ∧ t.responses = s.responses ++ [.err c]) ∧ t.timers = ⟨false, false, false⟩ ∧
      t.tx = s.tx ∧ t.nextIndex = s.nextIndex ∧ t.blockCount = s.blockCount ∧ t.cap = s.cap ∧
      s.phase ≠ .idle ∧ s.phase ≠ .done ∧
      ((∃ e rest, s.inbox = .txdoneErr e :: rest) ∨
        t.outstanding = s.outstanding ∧ t.ctrlPending = s.ctrlPending))
    ∧ (s.phase ≠ .done → t.phase = .done →
      t.responses = s.responses ++ [.ok] ∧ s.phase = .acknowledging)

/-- A whole job runs: from every state in `Idle`, for every image and every legal request, with the
inputs of an undisturbed job next in the inbox, the block goes through all of them, ends in `Idle`,
has put exactly the job's frames on the stream and has answered `Ok` (R86, R144; section 10 of
44_job_sequencer.md). One schedule of inputs, as a bounded run; that a schedule is the contents of the
inbox is the model's choice (log 1). -/
def Obligations.UndisturbedJobRunsToCompletion : Prop :=
  ∀ (image : List Byte) (cfg : JobConfig) (w : Word) (ts tc tg : Nat) (bc w2 w3 w4 w5 : Word)
    (rest : List Event) (s : State),
    s.phase = .idle → 1 ≤ image.length → image.length ≤ 1048560 → LegalRequest cfg w ts tc tg →
    bc.toNat = (image.length + 15) / 16 →
    s.inbox = jobSchedule image cfg bc.toNat (controlBytes .complete bc w2 w3 w4 w5) ++ rest →
    ∃ t, Sys2Proof.core.run (2 * bc.toNat + 8) s = .next t ∧ t.phase = .idle ∧ t.inbox = rest ∧
      t.tx = s.tx ++ ([controlBytes .start bc (cfg.copies.getD 1) 0 0 0]
        ++ dataFramesOf image bc.toNat ++ [controlBytes .start bc s.ackToken 0 0 0]) ∧
      t.responses = s.responses ++ [.ok]
end

