-- ==== Sys2Proof/Laws/Codec.lean ====
section
/-! SUPPORT. Laws of the codec's byte helpers and layouts. -/

namespace Sys2Proof

theorem lo8_toNat (w : Word) : (lo8 w).toNat = w.toNat % 256 := by
  simp [lo8, BitVec.extractLsb']

theorem hi8_toNat (w : Word) : (hi8 w).toNat = w.toNat / 256 := by
  have := w.isLt
  simp only [hi8, BitVec.extractLsb', BitVec.toNat_ofNat, Nat.shiftRight_eq_div_pow]
  omega

theorem le16_toNat (x y : Byte) : (le16 x y).toNat = x.toNat + 256 * y.toNat := by
  have := x.isLt
  have := y.isLt
  simp only [le16, BitVec.toNat_ofNat]
  omega

/-- A word read back from its two bytes (R42). -/
@[simp] theorem le16_lo8_hi8 (w : Word) : le16 (lo8 w) (hi8 w) = w := by
  apply BitVec.eq_of_toNat_eq
  rw [le16_toNat, lo8_toNat, hi8_toNat]
  omega

@[simp] theorem lo8_le16 (x y : Byte) : lo8 (le16 x y) = x := by
  apply BitVec.eq_of_toNat_eq
  rw [lo8_toNat, le16_toNat]
  have := x.isLt
  omega

@[simp] theorem hi8_le16 (x y : Byte) : hi8 (le16 x y) = y := by
  apply BitVec.eq_of_toNat_eq
  rw [hi8_toNat, le16_toNat]
  have := x.isLt
  omega

@[simp] theorem opcodeOf_code (op : Opcode) : opcodeOf op.code = some op := by cases op <;> rfl

/-- The only byte that an opcode is read from is its code (R64). -/
theorem opcodeOf_eq_some {b : Byte} {op : Opcode} (h : opcodeOf b = some op) : b = op.code := by
  unfold opcodeOf at h
  split at h
  · cases h; assumption
  · split at h
    · cases h; assumption
    · split at h
      · cases h; assumption
      · split at h
        · cases h; assumption
        · cases h

theorem opcodeOf_eq_none {b : Byte} :
    opcodeOf b = none ↔ b ≠ 0x02 ∧ b ≠ 0x04 ∧ b ≠ 0x06 ∧ b ≠ 0x07 := by
  unfold opcodeOf
  split_ifs <;> simp_all

@[simp] theorem wordOf_toNat (w : Word) : wordOf w.toNat = some w := by
  simp [wordOf, w.isLt]

theorem wordOf_of_lt {n : Nat} (h : n < 65536) : wordOf n = some (BitVec.ofNat 16 n) := if_pos h

theorem wordOf_of_le {n : Nat} (h : 65536 ≤ n) : wordOf n = none := if_neg (by omega)

@[simp] theorem length_controlBytes (op : Opcode) (w1 w2 w3 w4 w5 : Word) :
    (controlBytes op w1 w2 w3 w4 w5).length = 12 := rfl

@[simp] theorem length_dataBytes (index : Word) (payload : List Byte) :
    (dataBytes index payload).length = payload.length + 4 := by
  simp [dataBytes]

@[simp] theorem length_bytesOfNat (n w : Nat) : (bytesOfNat n w).length = n := by
  induction n generalizing w with
  | zero => rfl
  | succ n ih => simp [bytesOfNat, ih]

end Sys2Proof
end

