-- ==== Sys2Proof/Laws/Memory.lean ====
section
/-! SUPPORT. The job image memory: the canonical form is kept by every operation on it, and what a
read of a loaded image gives (R29, R41). -/

namespace Sys2Proof.Machine

theorem Memory.read_ofBytesAt_of_lt (image : List Byte) (a k : Nat) (h : k < a) :
    Memory.read (Memory.ofBytesAt a image) k = none := by
  induction image generalizing a with
  | nil => rfl
  | cons x xs ih =>
    simp only [Memory.ofBytesAt, Memory.read, if_neg (by omega : ¬ a = k)]
    exact ih (a + 1) (by omega)

theorem Memory.read_ofBytesAt (image : List Byte) (a k : Nat) :
    Memory.read (Memory.ofBytesAt a image) (a + k) = image[k]? := by
  induction image generalizing a k with
  | nil => rfl
  | cons x xs ih =>
    cases k with
    | zero => simp [Memory.ofBytesAt, Memory.read]
    | succ k =>
      simp only [Memory.ofBytesAt, Memory.read, if_neg (by omega : ¬ a = a + (k + 1))]
      rw [show a + (k + 1) = a + 1 + k from by omega, ih]
      rfl

/-- The byte at an address of a loaded image is that byte of the request (R29). -/
@[simp] theorem Memory.read_ofBytes (image : List Byte) (k : Nat) :
    Memory.read (Memory.ofBytes image) k = image[k]? := by
  simpa [Memory.ofBytes] using Memory.read_ofBytesAt image 0 k

/-- A read of existing bytes of a loaded image gives that slice of the request (R41). -/
theorem Memory.readBytes_ofBytes (image : List Byte) (addr n : Nat) (h : addr + n ≤ image.length) :
    Memory.readBytes (Memory.ofBytes image) addr n = some ((image.drop addr).take n) := by
  induction n generalizing addr with
  | zero => simp [Memory.readBytes]
  | succ n ih =>
    have hlt : addr < image.length := by omega
    simp only [Memory.readBytes, Memory.read_ofBytes, ih (addr + 1) (by omega),
      List.getElem?_eq_getElem hlt]
    rw [List.drop_eq_getElem_cons hlt, List.take_succ_cons]

theorem Memory.wf_ofBytesAt (image : List Byte) (a : Nat) :
    Memory.wf (Memory.ofBytesAt a image) = true := by
  induction image generalizing a with
  | nil => rfl
  | cons x xs ih =>
    cases xs with
    | nil => rfl
    | cons y ys => simpa [Memory.ofBytesAt, Memory.wf] using ih (a + 1)

/-- A loaded image is in canonical form. -/
@[simp] theorem Memory.wf_ofBytes (image : List Byte) : Memory.wf (Memory.ofBytes image) = true :=
  Memory.wf_ofBytesAt image 0

/-- The empty memory (power-on, release) is in canonical form. -/
@[simp] theorem Memory.wf_nil : Memory.wf [] = true := rfl

/-- `JOB_LOAD` leaves the image in canonical form. -/
theorem wf_loadSession (image : List Byte) (c : Latched) (s : State) :
    Memory.wf (s.loadSession image c).img = true := Memory.wf_ofBytes image

/-- The session's release leaves the image in canonical form. -/
theorem wf_release (s : State) : Memory.wf s.release.img = true := rfl

/-- The memory of the power-on state is in canonical form. -/
theorem wf_reset : Memory.wf State.reset.img = true := rfl

/-- Equal loaded images are equal data. -/
theorem Memory.ofBytes_injective {image image' : List Byte}
    (h : Memory.ofBytes image = Memory.ofBytes image') : image = image' := by
  apply List.ext_getElem?
  intro k
  rw [← Memory.read_ofBytes, ← Memory.read_ofBytes, h]

end Sys2Proof.Machine
end

