-- ==== Sys2Proof/Laws/State.lean ====
section
/-! SUPPORT. One lemma per field of `State` per named update: what the update leaves in that field.
Every one holds by definition; with them no proof unfolds a record update. -/

namespace Sys2Proof.Machine

variable (s : State)

/-! ### `State.send` -/

@[simp] theorem State.send_phase (f : List Byte) : (s.send f).phase = s.phase := rfl
@[simp] theorem State.send_cause (f : List Byte) : (s.send f).cause = s.cause := rfl
@[simp] theorem State.send_blockCount (f : List Byte) : (s.send f).blockCount = s.blockCount := rfl
@[simp] theorem State.send_copies (f : List Byte) : (s.send f).copies = s.copies := rfl
@[simp] theorem State.send_nextIndex (f : List Byte) : (s.send f).nextIndex = s.nextIndex := rfl
@[simp] theorem State.send_outstanding (f : List Byte) :
    (s.send f).outstanding = s.outstanding := rfl
@[simp] theorem State.send_ctrlPending (f : List Byte) :
    (s.send f).ctrlPending = s.ctrlPending := rfl
@[simp] theorem State.send_capValid (f : List Byte) : (s.send f).capValid = s.capValid := rfl
@[simp] theorem State.send_cap (f : List Byte) : (s.send f).cap = s.cap := rfl
@[simp] theorem State.send_window (f : List Byte) : (s.send f).window = s.window := rfl
@[simp] theorem State.send_tStatus (f : List Byte) : (s.send f).tStatus = s.tStatus := rfl
@[simp] theorem State.send_tComplete (f : List Byte) : (s.send f).tComplete = s.tComplete := rfl
@[simp] theorem State.send_tGrace (f : List Byte) : (s.send f).tGrace = s.tGrace := rfl
@[simp] theorem State.send_skipStatus (f : List Byte) : (s.send f).skipStatus = s.skipStatus := rfl
@[simp] theorem State.send_img (f : List Byte) : (s.send f).img = s.img := rfl
@[simp] theorem State.send_imgLen (f : List Byte) : (s.send f).imgLen = s.imgLen := rfl
@[simp] theorem State.send_timers (f : List Byte) : (s.send f).timers = s.timers := rfl
@[simp] theorem State.send_ackToken (f : List Byte) : (s.send f).ackToken = s.ackToken := rfl
@[simp] theorem State.send_badlenFatal (f : List Byte) :
    (s.send f).badlenFatal = s.badlenFatal := rfl
@[simp] theorem State.send_tx (f : List Byte) : (s.send f).tx = s.tx ++ [f] := rfl
@[simp] theorem State.send_responses (f : List Byte) : (s.send f).responses = s.responses := rfl
@[simp] theorem State.send_results (f : List Byte) : (s.send f).results = s.results := rfl
@[simp] theorem State.send_inbox (f : List Byte) : (s.send f).inbox = s.inbox := rfl
@[simp] theorem State.send_freeCount (f : List Byte) : (s.send f).freeCount = s.freeCount := rfl

/-! ### `State.respond` -/

@[simp] theorem State.respond_phase (r : Response) : (s.respond r).phase = s.phase := rfl
@[simp] theorem State.respond_cause (r : Response) : (s.respond r).cause = s.cause := rfl
@[simp] theorem State.respond_blockCount (r : Response) :
    (s.respond r).blockCount = s.blockCount := rfl
@[simp] theorem State.respond_copies (r : Response) : (s.respond r).copies = s.copies := rfl
@[simp] theorem State.respond_nextIndex (r : Response) :
    (s.respond r).nextIndex = s.nextIndex := rfl
@[simp] theorem State.respond_outstanding (r : Response) :
    (s.respond r).outstanding = s.outstanding := rfl
@[simp] theorem State.respond_ctrlPending (r : Response) :
    (s.respond r).ctrlPending = s.ctrlPending := rfl
@[simp] theorem State.respond_capValid (r : Response) : (s.respond r).capValid = s.capValid := rfl
@[simp] theorem State.respond_cap (r : Response) : (s.respond r).cap = s.cap := rfl
@[simp] theorem State.respond_window (r : Response) : (s.respond r).window = s.window := rfl
@[simp] theorem State.respond_tStatus (r : Response) : (s.respond r).tStatus = s.tStatus := rfl
@[simp] theorem State.respond_tComplete (r : Response) :
    (s.respond r).tComplete = s.tComplete := rfl
@[simp] theorem State.respond_tGrace (r : Response) : (s.respond r).tGrace = s.tGrace := rfl
@[simp] theorem State.respond_skipStatus (r : Response) :
    (s.respond r).skipStatus = s.skipStatus := rfl
@[simp] theorem State.respond_img (r : Response) : (s.respond r).img = s.img := rfl
@[simp] theorem State.respond_imgLen (r : Response) : (s.respond r).imgLen = s.imgLen := rfl
@[simp] theorem State.respond_timers (r : Response) : (s.respond r).timers = s.timers := rfl
@[simp] theorem State.respond_ackToken (r : Response) : (s.respond r).ackToken = s.ackToken := rfl
@[simp] theorem State.respond_badlenFatal (r : Response) :
    (s.respond r).badlenFatal = s.badlenFatal := rfl
@[simp] theorem State.respond_tx (r : Response) : (s.respond r).tx = s.tx := rfl
@[simp] theorem State.respond_responses (r : Response) :
    (s.respond r).responses = s.responses ++ [r] := rfl
@[simp] theorem State.respond_results (r : Response) : (s.respond r).results = s.results := rfl
@[simp] theorem State.respond_inbox (r : Response) : (s.respond r).inbox = s.inbox := rfl
@[simp] theorem State.respond_freeCount (r : Response) :
    (s.respond r).freeCount = s.freeCount := rfl

/-! ### `State.giveResult` -/

@[simp] theorem State.giveResult_phase (r : OpResult) : (s.giveResult r).phase = s.phase := rfl
@[simp] theorem State.giveResult_cause (r : OpResult) : (s.giveResult r).cause = s.cause := rfl
@[simp] theorem State.giveResult_blockCount (r : OpResult) :
    (s.giveResult r).blockCount = s.blockCount := rfl
@[simp] theorem State.giveResult_copies (r : OpResult) : (s.giveResult r).copies = s.copies := rfl
@[simp] theorem State.giveResult_nextIndex (r : OpResult) :
    (s.giveResult r).nextIndex = s.nextIndex := rfl
@[simp] theorem State.giveResult_outstanding (r : OpResult) :
    (s.giveResult r).outstanding = s.outstanding := rfl
@[simp] theorem State.giveResult_ctrlPending (r : OpResult) :
    (s.giveResult r).ctrlPending = s.ctrlPending := rfl
@[simp] theorem State.giveResult_capValid (r : OpResult) :
    (s.giveResult r).capValid = s.capValid := rfl
@[simp] theorem State.giveResult_cap (r : OpResult) : (s.giveResult r).cap = s.cap := rfl
@[simp] theorem State.giveResult_window (r : OpResult) : (s.giveResult r).window = s.window := rfl
@[simp] theorem State.giveResult_tStatus (r : OpResult) :
    (s.giveResult r).tStatus = s.tStatus := rfl
@[simp] theorem State.giveResult_tComplete (r : OpResult) :
    (s.giveResult r).tComplete = s.tComplete := rfl
@[simp] theorem State.giveResult_tGrace (r : OpResult) : (s.giveResult r).tGrace = s.tGrace := rfl
@[simp] theorem State.giveResult_skipStatus (r : OpResult) :
    (s.giveResult r).skipStatus = s.skipStatus := rfl
@[simp] theorem State.giveResult_img (r : OpResult) : (s.giveResult r).img = s.img := rfl
@[simp] theorem State.giveResult_imgLen (r : OpResult) : (s.giveResult r).imgLen = s.imgLen := rfl
@[simp] theorem State.giveResult_timers (r : OpResult) : (s.giveResult r).timers = s.timers := rfl
@[simp] theorem State.giveResult_ackToken (r : OpResult) :
    (s.giveResult r).ackToken = s.ackToken := rfl
@[simp] theorem State.giveResult_badlenFatal (r : OpResult) :
    (s.giveResult r).badlenFatal = s.badlenFatal := rfl
@[simp] theorem State.giveResult_tx (r : OpResult) : (s.giveResult r).tx = s.tx := rfl
@[simp] theorem State.giveResult_responses (r : OpResult) :
    (s.giveResult r).responses = s.responses := rfl
@[simp] theorem State.giveResult_results (r : OpResult) :
    (s.giveResult r).results = s.results ++ [r] := rfl
@[simp] theorem State.giveResult_inbox (r : OpResult) : (s.giveResult r).inbox = s.inbox := rfl
@[simp] theorem State.giveResult_freeCount (r : OpResult) :
    (s.giveResult r).freeCount = s.freeCount := rfl

/-! ### `State.takeSlot` -/

@[simp] theorem State.takeSlot_phase : (s.takeSlot).phase = s.phase := rfl
@[simp] theorem State.takeSlot_cause : (s.takeSlot).cause = s.cause := rfl
@[simp] theorem State.takeSlot_blockCount : (s.takeSlot).blockCount = s.blockCount := rfl
@[simp] theorem State.takeSlot_copies : (s.takeSlot).copies = s.copies := rfl
@[simp] theorem State.takeSlot_nextIndex : (s.takeSlot).nextIndex = s.nextIndex := rfl
@[simp] theorem State.takeSlot_outstanding : (s.takeSlot).outstanding = s.outstanding + 1 := rfl
@[simp] theorem State.takeSlot_ctrlPending : (s.takeSlot).ctrlPending = s.ctrlPending := rfl
@[simp] theorem State.takeSlot_capValid : (s.takeSlot).capValid = s.capValid := rfl
@[simp] theorem State.takeSlot_cap : (s.takeSlot).cap = s.cap := rfl
@[simp] theorem State.takeSlot_window : (s.takeSlot).window = s.window := rfl
@[simp] theorem State.takeSlot_tStatus : (s.takeSlot).tStatus = s.tStatus := rfl
@[simp] theorem State.takeSlot_tComplete : (s.takeSlot).tComplete = s.tComplete := rfl
@[simp] theorem State.takeSlot_tGrace : (s.takeSlot).tGrace = s.tGrace := rfl
@[simp] theorem State.takeSlot_skipStatus : (s.takeSlot).skipStatus = s.skipStatus := rfl
@[simp] theorem State.takeSlot_img : (s.takeSlot).img = s.img := rfl
@[simp] theorem State.takeSlot_imgLen : (s.takeSlot).imgLen = s.imgLen := rfl
@[simp] theorem State.takeSlot_timers : (s.takeSlot).timers = s.timers := rfl
@[simp] theorem State.takeSlot_ackToken : (s.takeSlot).ackToken = s.ackToken := rfl
@[simp] theorem State.takeSlot_badlenFatal : (s.takeSlot).badlenFatal = s.badlenFatal := rfl
@[simp] theorem State.takeSlot_tx : (s.takeSlot).tx = s.tx := rfl
@[simp] theorem State.takeSlot_responses : (s.takeSlot).responses = s.responses := rfl
@[simp] theorem State.takeSlot_results : (s.takeSlot).results = s.results := rfl
@[simp] theorem State.takeSlot_inbox : (s.takeSlot).inbox = s.inbox := rfl
@[simp] theorem State.takeSlot_freeCount : (s.takeSlot).freeCount = s.freeCount := rfl

/-! ### `State.returnSlot` -/

@[simp] theorem State.returnSlot_phase : (s.returnSlot).phase = s.phase := rfl
@[simp] theorem State.returnSlot_cause : (s.returnSlot).cause = s.cause := rfl
@[simp] theorem State.returnSlot_blockCount : (s.returnSlot).blockCount = s.blockCount := rfl
@[simp] theorem State.returnSlot_copies : (s.returnSlot).copies = s.copies := rfl
@[simp] theorem State.returnSlot_nextIndex : (s.returnSlot).nextIndex = s.nextIndex := rfl
@[simp] theorem State.returnSlot_outstanding : (s.returnSlot).outstanding = s.outstanding - 1 := rfl
@[simp] theorem State.returnSlot_ctrlPending : (s.returnSlot).ctrlPending = s.ctrlPending := rfl
@[simp] theorem State.returnSlot_capValid : (s.returnSlot).capValid = s.capValid := rfl
@[simp] theorem State.returnSlot_cap : (s.returnSlot).cap = s.cap := rfl
@[simp] theorem State.returnSlot_window : (s.returnSlot).window = s.window := rfl
@[simp] theorem State.returnSlot_tStatus : (s.returnSlot).tStatus = s.tStatus := rfl
@[simp] theorem State.returnSlot_tComplete : (s.returnSlot).tComplete = s.tComplete := rfl
@[simp] theorem State.returnSlot_tGrace : (s.returnSlot).tGrace = s.tGrace := rfl
@[simp] theorem State.returnSlot_skipStatus : (s.returnSlot).skipStatus = s.skipStatus := rfl
@[simp] theorem State.returnSlot_img : (s.returnSlot).img = s.img := rfl
@[simp] theorem State.returnSlot_imgLen : (s.returnSlot).imgLen = s.imgLen := rfl
@[simp] theorem State.returnSlot_timers : (s.returnSlot).timers = s.timers := rfl
@[simp] theorem State.returnSlot_ackToken : (s.returnSlot).ackToken = s.ackToken := rfl
@[simp] theorem State.returnSlot_badlenFatal : (s.returnSlot).badlenFatal = s.badlenFatal := rfl
@[simp] theorem State.returnSlot_tx : (s.returnSlot).tx = s.tx := rfl
@[simp] theorem State.returnSlot_responses : (s.returnSlot).responses = s.responses := rfl
@[simp] theorem State.returnSlot_results : (s.returnSlot).results = s.results := rfl
@[simp] theorem State.returnSlot_inbox : (s.returnSlot).inbox = s.inbox := rfl
@[simp] theorem State.returnSlot_freeCount : (s.returnSlot).freeCount = s.freeCount := rfl

/-! ### `State.retireCtrl` -/

@[simp] theorem State.retireCtrl_phase : (s.retireCtrl).phase = s.phase := rfl
@[simp] theorem State.retireCtrl_cause : (s.retireCtrl).cause = s.cause := rfl
@[simp] theorem State.retireCtrl_blockCount : (s.retireCtrl).blockCount = s.blockCount := rfl
@[simp] theorem State.retireCtrl_copies : (s.retireCtrl).copies = s.copies := rfl
@[simp] theorem State.retireCtrl_nextIndex : (s.retireCtrl).nextIndex = s.nextIndex := rfl
@[simp] theorem State.retireCtrl_outstanding : (s.retireCtrl).outstanding = s.outstanding := rfl
@[simp] theorem State.retireCtrl_ctrlPending : (s.retireCtrl).ctrlPending = false := rfl
@[simp] theorem State.retireCtrl_capValid : (s.retireCtrl).capValid = s.capValid := rfl
@[simp] theorem State.retireCtrl_cap : (s.retireCtrl).cap = s.cap := rfl
@[simp] theorem State.retireCtrl_window : (s.retireCtrl).window = s.window := rfl
@[simp] theorem State.retireCtrl_tStatus : (s.retireCtrl).tStatus = s.tStatus := rfl
@[simp] theorem State.retireCtrl_tComplete : (s.retireCtrl).tComplete = s.tComplete := rfl
@[simp] theorem State.retireCtrl_tGrace : (s.retireCtrl).tGrace = s.tGrace := rfl
@[simp] theorem State.retireCtrl_skipStatus : (s.retireCtrl).skipStatus = s.skipStatus := rfl
@[simp] theorem State.retireCtrl_img : (s.retireCtrl).img = s.img := rfl
@[simp] theorem State.retireCtrl_imgLen : (s.retireCtrl).imgLen = s.imgLen := rfl
@[simp] theorem State.retireCtrl_timers : (s.retireCtrl).timers = s.timers := rfl
@[simp] theorem State.retireCtrl_ackToken : (s.retireCtrl).ackToken = s.ackToken := rfl
@[simp] theorem State.retireCtrl_badlenFatal : (s.retireCtrl).badlenFatal = s.badlenFatal := rfl
@[simp] theorem State.retireCtrl_tx : (s.retireCtrl).tx = s.tx := rfl
@[simp] theorem State.retireCtrl_responses : (s.retireCtrl).responses = s.responses := rfl
@[simp] theorem State.retireCtrl_results : (s.retireCtrl).results = s.results := rfl
@[simp] theorem State.retireCtrl_inbox : (s.retireCtrl).inbox = s.inbox := rfl
@[simp] theorem State.retireCtrl_freeCount : (s.retireCtrl).freeCount = s.freeCount := rfl

/-! ### `State.issueControl` -/

@[simp] theorem State.issueControl_phase (f : List Byte) : (s.issueControl f).phase = s.phase := rfl
@[simp] theorem State.issueControl_cause (f : List Byte) : (s.issueControl f).cause = s.cause := rfl
@[simp] theorem State.issueControl_blockCount (f : List Byte) :
    (s.issueControl f).blockCount = s.blockCount := rfl
@[simp] theorem State.issueControl_copies (f : List Byte) :
    (s.issueControl f).copies = s.copies := rfl
@[simp] theorem State.issueControl_nextIndex (f : List Byte) :
    (s.issueControl f).nextIndex = s.nextIndex := rfl
@[simp] theorem State.issueControl_outstanding (f : List Byte) :
    (s.issueControl f).outstanding = s.outstanding := rfl
@[simp] theorem State.issueControl_ctrlPending (f : List Byte) :
    (s.issueControl f).ctrlPending = true := rfl
@[simp] theorem State.issueControl_capValid (f : List Byte) :
    (s.issueControl f).capValid = s.capValid := rfl
@[simp] theorem State.issueControl_cap (f : List Byte) : (s.issueControl f).cap = s.cap := rfl
@[simp] theorem State.issueControl_window (f : List Byte) :
    (s.issueControl f).window = s.window := rfl
@[simp] theorem State.issueControl_tStatus (f : List Byte) :
    (s.issueControl f).tStatus = s.tStatus := rfl
@[simp] theorem State.issueControl_tComplete (f : List Byte) :
    (s.issueControl f).tComplete = s.tComplete := rfl
@[simp] theorem State.issueControl_tGrace (f : List Byte) :
    (s.issueControl f).tGrace = s.tGrace := rfl
@[simp] theorem State.issueControl_skipStatus (f : List Byte) :
    (s.issueControl f).skipStatus = s.skipStatus := rfl
@[simp] theorem State.issueControl_img (f : List Byte) : (s.issueControl f).img = s.img := rfl
@[simp] theorem State.issueControl_imgLen (f : List Byte) :
    (s.issueControl f).imgLen = s.imgLen := rfl
@[simp] theorem State.issueControl_timers (f : List Byte) :
    (s.issueControl f).timers = s.timers := rfl
@[simp] theorem State.issueControl_ackToken (f : List Byte) :
    (s.issueControl f).ackToken = s.ackToken := rfl
@[simp] theorem State.issueControl_badlenFatal (f : List Byte) :
    (s.issueControl f).badlenFatal = s.badlenFatal := rfl
@[simp] theorem State.issueControl_tx (f : List Byte) : (s.issueControl f).tx = s.tx ++ [f] := rfl
@[simp] theorem State.issueControl_responses (f : List Byte) :
    (s.issueControl f).responses = s.responses := rfl
@[simp] theorem State.issueControl_results (f : List Byte) :
    (s.issueControl f).results = s.results := rfl
@[simp] theorem State.issueControl_inbox (f : List Byte) : (s.issueControl f).inbox = s.inbox := rfl
@[simp] theorem State.issueControl_freeCount (f : List Byte) :
    (s.issueControl f).freeCount = s.freeCount := rfl

/-! ### `State.emitBlock` -/

@[simp] theorem State.emitBlock_phase (f : List Byte) : (s.emitBlock f).phase = s.phase := rfl
@[simp] theorem State.emitBlock_cause (f : List Byte) : (s.emitBlock f).cause = s.cause := rfl
@[simp] theorem State.emitBlock_blockCount (f : List Byte) :
    (s.emitBlock f).blockCount = s.blockCount := rfl
@[simp] theorem State.emitBlock_copies (f : List Byte) : (s.emitBlock f).copies = s.copies := rfl
@[simp] theorem State.emitBlock_nextIndex (f : List Byte) :
    (s.emitBlock f).nextIndex = s.nextIndex + 1 := rfl
@[simp] theorem State.emitBlock_outstanding (f : List Byte) :
    (s.emitBlock f).outstanding = s.outstanding + 1 := rfl
@[simp] theorem State.emitBlock_ctrlPending (f : List Byte) :
    (s.emitBlock f).ctrlPending = s.ctrlPending := rfl
@[simp] theorem State.emitBlock_capValid (f : List Byte) :
    (s.emitBlock f).capValid = s.capValid := rfl
@[simp] theorem State.emitBlock_cap (f : List Byte) : (s.emitBlock f).cap = s.cap := rfl
@[simp] theorem State.emitBlock_window (f : List Byte) : (s.emitBlock f).window = s.window := rfl
@[simp] theorem State.emitBlock_tStatus (f : List Byte) : (s.emitBlock f).tStatus = s.tStatus := rfl
@[simp] theorem State.emitBlock_tComplete (f : List Byte) :
    (s.emitBlock f).tComplete = s.tComplete := rfl
@[simp] theorem State.emitBlock_tGrace (f : List Byte) : (s.emitBlock f).tGrace = s.tGrace := rfl
@[simp] theorem State.emitBlock_skipStatus (f : List Byte) :
    (s.emitBlock f).skipStatus = s.skipStatus := rfl
@[simp] theorem State.emitBlock_img (f : List Byte) : (s.emitBlock f).img = s.img := rfl
@[simp] theorem State.emitBlock_imgLen (f : List Byte) : (s.emitBlock f).imgLen = s.imgLen := rfl
@[simp] theorem State.emitBlock_timers (f : List Byte) : (s.emitBlock f).timers = s.timers := rfl
@[simp] theorem State.emitBlock_ackToken (f : List Byte) :
    (s.emitBlock f).ackToken = s.ackToken := rfl
@[simp] theorem State.emitBlock_badlenFatal (f : List Byte) :
    (s.emitBlock f).badlenFatal = s.badlenFatal := rfl
@[simp] theorem State.emitBlock_tx (f : List Byte) : (s.emitBlock f).tx = s.tx ++ [f] := rfl
@[simp] theorem State.emitBlock_responses (f : List Byte) :
    (s.emitBlock f).responses = s.responses := rfl
@[simp] theorem State.emitBlock_results (f : List Byte) : (s.emitBlock f).results = s.results := rfl
@[simp] theorem State.emitBlock_inbox (f : List Byte) : (s.emitBlock f).inbox = s.inbox := rfl
@[simp] theorem State.emitBlock_freeCount (f : List Byte) :
    (s.emitBlock f).freeCount = s.freeCount := rfl

/-! ### `State.enterAwaitingStatus` -/

@[simp] theorem State.enterAwaitingStatus_phase :
    (s.enterAwaitingStatus).phase = .awaitingStatus := rfl
@[simp] theorem State.enterAwaitingStatus_cause : (s.enterAwaitingStatus).cause = s.cause := rfl
@[simp] theorem State.enterAwaitingStatus_blockCount :
    (s.enterAwaitingStatus).blockCount = s.blockCount := rfl
@[simp] theorem State.enterAwaitingStatus_copies : (s.enterAwaitingStatus).copies = s.copies := rfl
@[simp] theorem State.enterAwaitingStatus_nextIndex :
    (s.enterAwaitingStatus).nextIndex = s.nextIndex := rfl
@[simp] theorem State.enterAwaitingStatus_outstanding :
    (s.enterAwaitingStatus).outstanding = s.outstanding := rfl
@[simp] theorem State.enterAwaitingStatus_ctrlPending :
    (s.enterAwaitingStatus).ctrlPending = s.ctrlPending := rfl
@[simp] theorem State.enterAwaitingStatus_capValid :
    (s.enterAwaitingStatus).capValid = s.capValid := rfl
@[simp] theorem State.enterAwaitingStatus_cap : (s.enterAwaitingStatus).cap = s.cap := rfl
@[simp] theorem State.enterAwaitingStatus_window : (s.enterAwaitingStatus).window = s.window := rfl
@[simp] theorem State.enterAwaitingStatus_tStatus :
    (s.enterAwaitingStatus).tStatus = s.tStatus := rfl
@[simp] theorem State.enterAwaitingStatus_tComplete :
    (s.enterAwaitingStatus).tComplete = s.tComplete := rfl
@[simp] theorem State.enterAwaitingStatus_tGrace : (s.enterAwaitingStatus).tGrace = s.tGrace := rfl
@[simp] theorem State.enterAwaitingStatus_skipStatus :
    (s.enterAwaitingStatus).skipStatus = s.skipStatus := rfl
@[simp] theorem State.enterAwaitingStatus_img : (s.enterAwaitingStatus).img = s.img := rfl
@[simp] theorem State.enterAwaitingStatus_imgLen : (s.enterAwaitingStatus).imgLen = s.imgLen := rfl
@[simp] theorem State.enterAwaitingStatus_timers :
    (s.enterAwaitingStatus).timers = { s.timers with status := true } := rfl
@[simp] theorem State.enterAwaitingStatus_ackToken :
    (s.enterAwaitingStatus).ackToken = s.ackToken := rfl
@[simp] theorem State.enterAwaitingStatus_badlenFatal :
    (s.enterAwaitingStatus).badlenFatal = s.badlenFatal := rfl
@[simp] theorem State.enterAwaitingStatus_tx : (s.enterAwaitingStatus).tx = s.tx := rfl
@[simp] theorem State.enterAwaitingStatus_responses :
    (s.enterAwaitingStatus).responses = s.responses := rfl
@[simp] theorem State.enterAwaitingStatus_results :
    (s.enterAwaitingStatus).results = s.results := rfl
@[simp] theorem State.enterAwaitingStatus_inbox : (s.enterAwaitingStatus).inbox = s.inbox := rfl
@[simp] theorem State.enterAwaitingStatus_freeCount :
    (s.enterAwaitingStatus).freeCount = s.freeCount := rfl

/-! ### `State.enterStarting` -/

@[simp] theorem State.enterStarting_phase : (s.enterStarting).phase = .starting := rfl
@[simp] theorem State.enterStarting_cause : (s.enterStarting).cause = s.cause := rfl
@[simp] theorem State.enterStarting_blockCount : (s.enterStarting).blockCount = s.blockCount := rfl
@[simp] theorem State.enterStarting_copies : (s.enterStarting).copies = s.copies := rfl
@[simp] theorem State.enterStarting_nextIndex : (s.enterStarting).nextIndex = s.nextIndex := rfl
@[simp] theorem State.enterStarting_outstanding :
    (s.enterStarting).outstanding = s.outstanding := rfl
@[simp] theorem State.enterStarting_ctrlPending :
    (s.enterStarting).ctrlPending = s.ctrlPending := rfl
@[simp] theorem State.enterStarting_capValid : (s.enterStarting).capValid = s.capValid := rfl
@[simp] theorem State.enterStarting_cap : (s.enterStarting).cap = s.cap := rfl
@[simp] theorem State.enterStarting_window : (s.enterStarting).window = s.window := rfl
@[simp] theorem State.enterStarting_tStatus : (s.enterStarting).tStatus = s.tStatus := rfl
@[simp] theorem State.enterStarting_tComplete : (s.enterStarting).tComplete = s.tComplete := rfl
@[simp] theorem State.enterStarting_tGrace : (s.enterStarting).tGrace = s.tGrace := rfl
@[simp] theorem State.enterStarting_skipStatus : (s.enterStarting).skipStatus = s.skipStatus := rfl
@[simp] theorem State.enterStarting_img : (s.enterStarting).img = s.img := rfl
@[simp] theorem State.enterStarting_imgLen : (s.enterStarting).imgLen = s.imgLen := rfl
@[simp] theorem State.enterStarting_timers :
    (s.enterStarting).timers = { s.timers with status := false } := rfl
@[simp] theorem State.enterStarting_ackToken : (s.enterStarting).ackToken = s.ackToken := rfl
@[simp] theorem State.enterStarting_badlenFatal :
    (s.enterStarting).badlenFatal = s.badlenFatal := rfl
@[simp] theorem State.enterStarting_tx : (s.enterStarting).tx = s.tx := rfl
@[simp] theorem State.enterStarting_responses : (s.enterStarting).responses = s.responses := rfl
@[simp] theorem State.enterStarting_results : (s.enterStarting).results = s.results := rfl
@[simp] theorem State.enterStarting_inbox : (s.enterStarting).inbox = s.inbox := rfl
@[simp] theorem State.enterStarting_freeCount : (s.enterStarting).freeCount = s.freeCount := rfl

/-! ### `State.latchCaps` -/

@[simp] theorem State.latchCaps_phase (f : ControlFrame) : (s.latchCaps f).phase = s.phase := rfl
@[simp] theorem State.latchCaps_cause (f : ControlFrame) : (s.latchCaps f).cause = s.cause := rfl
@[simp] theorem State.latchCaps_blockCount (f : ControlFrame) :
    (s.latchCaps f).blockCount = s.blockCount := rfl
@[simp] theorem State.latchCaps_copies (f : ControlFrame) : (s.latchCaps f).copies = s.copies := rfl
@[simp] theorem State.latchCaps_nextIndex (f : ControlFrame) :
    (s.latchCaps f).nextIndex = s.nextIndex := rfl
@[simp] theorem State.latchCaps_outstanding (f : ControlFrame) :
    (s.latchCaps f).outstanding = s.outstanding := rfl
@[simp] theorem State.latchCaps_ctrlPending (f : ControlFrame) :
    (s.latchCaps f).ctrlPending = s.ctrlPending := rfl
@[simp] theorem State.latchCaps_capValid (f : ControlFrame) : (s.latchCaps f).capValid = true := rfl
@[simp] theorem State.latchCaps_cap (f : ControlFrame) :
    (s.latchCaps f).cap = ⟨f.w1, f.w2, f.w3, f.w4, f.w5⟩ := rfl
@[simp] theorem State.latchCaps_window (f : ControlFrame) : (s.latchCaps f).window = s.window := rfl
@[simp] theorem State.latchCaps_tStatus (f : ControlFrame) :
    (s.latchCaps f).tStatus = s.tStatus := rfl
@[simp] theorem State.latchCaps_tComplete (f : ControlFrame) :
    (s.latchCaps f).tComplete = s.tComplete := rfl
@[simp] theorem State.latchCaps_tGrace (f : ControlFrame) : (s.latchCaps f).tGrace = s.tGrace := rfl
@[simp] theorem State.latchCaps_skipStatus (f : ControlFrame) :
    (s.latchCaps f).skipStatus = s.skipStatus := rfl
@[simp] theorem State.latchCaps_img (f : ControlFrame) : (s.latchCaps f).img = s.img := rfl
@[simp] theorem State.latchCaps_imgLen (f : ControlFrame) : (s.latchCaps f).imgLen = s.imgLen := rfl
@[simp] theorem State.latchCaps_timers (f : ControlFrame) : (s.latchCaps f).timers = s.timers := rfl
@[simp] theorem State.latchCaps_ackToken (f : ControlFrame) :
    (s.latchCaps f).ackToken = s.ackToken := rfl
@[simp] theorem State.latchCaps_badlenFatal (f : ControlFrame) :
    (s.latchCaps f).badlenFatal = s.badlenFatal := rfl
@[simp] theorem State.latchCaps_tx (f : ControlFrame) : (s.latchCaps f).tx = s.tx := rfl
@[simp] theorem State.latchCaps_responses (f : ControlFrame) :
    (s.latchCaps f).responses = s.responses := rfl
@[simp] theorem State.latchCaps_results (f : ControlFrame) :
    (s.latchCaps f).results = s.results := rfl
@[simp] theorem State.latchCaps_inbox (f : ControlFrame) : (s.latchCaps f).inbox = s.inbox := rfl
@[simp] theorem State.latchCaps_freeCount (f : ControlFrame) :
    (s.latchCaps f).freeCount = s.freeCount := rfl

/-! ### `State.enterStreaming` -/

@[simp] theorem State.enterStreaming_phase : (s.enterStreaming).phase = .streaming := rfl
@[simp] theorem State.enterStreaming_cause : (s.enterStreaming).cause = s.cause := rfl
@[simp] theorem State.enterStreaming_blockCount :
    (s.enterStreaming).blockCount = s.blockCount := rfl
@[simp] theorem State.enterStreaming_copies : (s.enterStreaming).copies = s.copies := rfl
@[simp] theorem State.enterStreaming_nextIndex : (s.enterStreaming).nextIndex = s.nextIndex := rfl
@[simp] theorem State.enterStreaming_outstanding :
    (s.enterStreaming).outstanding = s.outstanding := rfl
@[simp] theorem State.enterStreaming_ctrlPending : (s.enterStreaming).ctrlPending = false := rfl
@[simp] theorem State.enterStreaming_capValid : (s.enterStreaming).capValid = s.capValid := rfl
@[simp] theorem State.enterStreaming_cap : (s.enterStreaming).cap = s.cap := rfl
@[simp] theorem State.enterStreaming_window : (s.enterStreaming).window = s.window := rfl
@[simp] theorem State.enterStreaming_tStatus : (s.enterStreaming).tStatus = s.tStatus := rfl
@[simp] theorem State.enterStreaming_tComplete : (s.enterStreaming).tComplete = s.tComplete := rfl
@[simp] theorem State.enterStreaming_tGrace : (s.enterStreaming).tGrace = s.tGrace := rfl
@[simp] theorem State.enterStreaming_skipStatus :
    (s.enterStreaming).skipStatus = s.skipStatus := rfl
@[simp] theorem State.enterStreaming_img : (s.enterStreaming).img = s.img := rfl
@[simp] theorem State.enterStreaming_imgLen : (s.enterStreaming).imgLen = s.imgLen := rfl
@[simp] theorem State.enterStreaming_timers : (s.enterStreaming).timers = s.timers := rfl
@[simp] theorem State.enterStreaming_ackToken : (s.enterStreaming).ackToken = s.ackToken := rfl
@[simp] theorem State.enterStreaming_badlenFatal :
    (s.enterStreaming).badlenFatal = s.badlenFatal := rfl
@[simp] theorem State.enterStreaming_tx : (s.enterStreaming).tx = s.tx := rfl
@[simp] theorem State.enterStreaming_responses : (s.enterStreaming).responses = s.responses := rfl
@[simp] theorem State.enterStreaming_results : (s.enterStreaming).results = s.results := rfl
@[simp] theorem State.enterStreaming_inbox : (s.enterStreaming).inbox = s.inbox := rfl
@[simp] theorem State.enterStreaming_freeCount : (s.enterStreaming).freeCount = s.freeCount := rfl

/-! ### `State.enterAwaitingCompletion` -/

@[simp] theorem State.enterAwaitingCompletion_phase :
    (s.enterAwaitingCompletion).phase = .awaitingCompletion := rfl
@[simp] theorem State.enterAwaitingCompletion_cause :
    (s.enterAwaitingCompletion).cause = s.cause := rfl
@[simp] theorem State.enterAwaitingCompletion_blockCount :
    (s.enterAwaitingCompletion).blockCount = s.blockCount := rfl
@[simp] theorem State.enterAwaitingCompletion_copies :
    (s.enterAwaitingCompletion).copies = s.copies := rfl
@[simp] theorem State.enterAwaitingCompletion_nextIndex :
    (s.enterAwaitingCompletion).nextIndex = s.nextIndex := rfl
@[simp] theorem State.enterAwaitingCompletion_outstanding :
    (s.enterAwaitingCompletion).outstanding = s.outstanding := rfl
@[simp] theorem State.enterAwaitingCompletion_ctrlPending :
    (s.enterAwaitingCompletion).ctrlPending = s.ctrlPending := rfl
@[simp] theorem State.enterAwaitingCompletion_capValid :
    (s.enterAwaitingCompletion).capValid = s.capValid := rfl
@[simp] theorem State.enterAwaitingCompletion_cap : (s.enterAwaitingCompletion).cap = s.cap := rfl
@[simp] theorem State.enterAwaitingCompletion_window :
    (s.enterAwaitingCompletion).window = s.window := rfl
@[simp] theorem State.enterAwaitingCompletion_tStatus :
    (s.enterAwaitingCompletion).tStatus = s.tStatus := rfl
@[simp] theorem State.enterAwaitingCompletion_tComplete :
    (s.enterAwaitingCompletion).tComplete = s.tComplete := rfl
@[simp] theorem State.enterAwaitingCompletion_tGrace :
    (s.enterAwaitingCompletion).tGrace = s.tGrace := rfl
@[simp] theorem State.enterAwaitingCompletion_skipStatus :
    (s.enterAwaitingCompletion).skipStatus = s.skipStatus := rfl
@[simp] theorem State.enterAwaitingCompletion_img : (s.enterAwaitingCompletion).img = s.img := rfl
@[simp] theorem State.enterAwaitingCompletion_imgLen :
    (s.enterAwaitingCompletion).imgLen = s.imgLen := rfl
@[simp] theorem State.enterAwaitingCompletion_timers :
    (s.enterAwaitingCompletion).timers = { s.timers with complete := true } := rfl
@[simp] theorem State.enterAwaitingCompletion_ackToken :
    (s.enterAwaitingCompletion).ackToken = s.ackToken := rfl
@[simp] theorem State.enterAwaitingCompletion_badlenFatal :
    (s.enterAwaitingCompletion).badlenFatal = s.badlenFatal := rfl
@[simp] theorem State.enterAwaitingCompletion_tx : (s.enterAwaitingCompletion).tx = s.tx := rfl
@[simp] theorem State.enterAwaitingCompletion_responses :
    (s.enterAwaitingCompletion).responses = s.responses := rfl
@[simp] theorem State.enterAwaitingCompletion_results :
    (s.enterAwaitingCompletion).results = s.results := rfl
@[simp] theorem State.enterAwaitingCompletion_inbox :
    (s.enterAwaitingCompletion).inbox = s.inbox := rfl
@[simp] theorem State.enterAwaitingCompletion_freeCount :
    (s.enterAwaitingCompletion).freeCount = s.freeCount := rfl

/-! ### `State.enterAcknowledging` -/

@[simp] theorem State.enterAcknowledging_phase :
    (s.enterAcknowledging).phase = .acknowledging := rfl
@[simp] theorem State.enterAcknowledging_cause : (s.enterAcknowledging).cause = s.cause := rfl
@[simp] theorem State.enterAcknowledging_blockCount :
    (s.enterAcknowledging).blockCount = s.blockCount := rfl
@[simp] theorem State.enterAcknowledging_copies : (s.enterAcknowledging).copies = s.copies := rfl
@[simp] theorem State.enterAcknowledging_nextIndex :
    (s.enterAcknowledging).nextIndex = s.nextIndex := rfl
@[simp] theorem State.enterAcknowledging_outstanding :
    (s.enterAcknowledging).outstanding = s.outstanding := rfl
@[simp] theorem State.enterAcknowledging_ctrlPending :
    (s.enterAcknowledging).ctrlPending = s.ctrlPending := rfl
@[simp] theorem State.enterAcknowledging_capValid :
    (s.enterAcknowledging).capValid = s.capValid := rfl
@[simp] theorem State.enterAcknowledging_cap : (s.enterAcknowledging).cap = s.cap := rfl
@[simp] theorem State.enterAcknowledging_window : (s.enterAcknowledging).window = s.window := rfl
@[simp] theorem State.enterAcknowledging_tStatus : (s.enterAcknowledging).tStatus = s.tStatus := rfl
@[simp] theorem State.enterAcknowledging_tComplete :
    (s.enterAcknowledging).tComplete = s.tComplete := rfl
@[simp] theorem State.enterAcknowledging_tGrace : (s.enterAcknowledging).tGrace = s.tGrace := rfl
@[simp] theorem State.enterAcknowledging_skipStatus :
    (s.enterAcknowledging).skipStatus = s.skipStatus := rfl
@[simp] theorem State.enterAcknowledging_img : (s.enterAcknowledging).img = s.img := rfl
@[simp] theorem State.enterAcknowledging_imgLen : (s.enterAcknowledging).imgLen = s.imgLen := rfl
@[simp] theorem State.enterAcknowledging_timers :
    (s.enterAcknowledging).timers = { s.timers with complete := false } := rfl
@[simp] theorem State.enterAcknowledging_ackToken :
    (s.enterAcknowledging).ackToken = s.ackToken := rfl
@[simp] theorem State.enterAcknowledging_badlenFatal :
    (s.enterAcknowledging).badlenFatal = s.badlenFatal := rfl
@[simp] theorem State.enterAcknowledging_tx : (s.enterAcknowledging).tx = s.tx := rfl
@[simp] theorem State.enterAcknowledging_responses :
    (s.enterAcknowledging).responses = s.responses := rfl
@[simp] theorem State.enterAcknowledging_results : (s.enterAcknowledging).results = s.results := rfl
@[simp] theorem State.enterAcknowledging_inbox : (s.enterAcknowledging).inbox = s.inbox := rfl
@[simp] theorem State.enterAcknowledging_freeCount :
    (s.enterAcknowledging).freeCount = s.freeCount := rfl

/-! ### `State.enterDone` -/

@[simp] theorem State.enterDone_phase : (s.enterDone).phase = .done := rfl
@[simp] theorem State.enterDone_cause : (s.enterDone).cause = s.cause := rfl
@[simp] theorem State.enterDone_blockCount : (s.enterDone).blockCount = s.blockCount := rfl
@[simp] theorem State.enterDone_copies : (s.enterDone).copies = s.copies := rfl
@[simp] theorem State.enterDone_nextIndex : (s.enterDone).nextIndex = s.nextIndex := rfl
@[simp] theorem State.enterDone_outstanding : (s.enterDone).outstanding = s.outstanding := rfl
@[simp] theorem State.enterDone_ctrlPending : (s.enterDone).ctrlPending = false := rfl
@[simp] theorem State.enterDone_capValid : (s.enterDone).capValid = s.capValid := rfl
@[simp] theorem State.enterDone_cap : (s.enterDone).cap = s.cap := rfl
@[simp] theorem State.enterDone_window : (s.enterDone).window = s.window := rfl
@[simp] theorem State.enterDone_tStatus : (s.enterDone).tStatus = s.tStatus := rfl
@[simp] theorem State.enterDone_tComplete : (s.enterDone).tComplete = s.tComplete := rfl
@[simp] theorem State.enterDone_tGrace : (s.enterDone).tGrace = s.tGrace := rfl
@[simp] theorem State.enterDone_skipStatus : (s.enterDone).skipStatus = s.skipStatus := rfl
@[simp] theorem State.enterDone_img : (s.enterDone).img = s.img := rfl
@[simp] theorem State.enterDone_imgLen : (s.enterDone).imgLen = s.imgLen := rfl
@[simp] theorem State.enterDone_timers :
    (s.enterDone).timers = { s.timers with grace := true } := rfl
@[simp] theorem State.enterDone_ackToken : (s.enterDone).ackToken = s.ackToken := rfl
@[simp] theorem State.enterDone_badlenFatal : (s.enterDone).badlenFatal = s.badlenFatal := rfl
@[simp] theorem State.enterDone_tx : (s.enterDone).tx = s.tx := rfl
@[simp] theorem State.enterDone_responses : (s.enterDone).responses = s.responses ++ [.ok] := rfl
@[simp] theorem State.enterDone_results : (s.enterDone).results = s.results := rfl
@[simp] theorem State.enterDone_inbox : (s.enterDone).inbox = s.inbox := rfl
@[simp] theorem State.enterDone_freeCount : (s.enterDone).freeCount = s.freeCount := rfl

/-! ### `State.fail` -/

@[simp] theorem State.fail_phase (c : Cause) : (s.fail c).phase = .failed := rfl
@[simp] theorem State.fail_cause (c : Cause) : (s.fail c).cause = some c := rfl
@[simp] theorem State.fail_blockCount (c : Cause) : (s.fail c).blockCount = s.blockCount := rfl
@[simp] theorem State.fail_copies (c : Cause) : (s.fail c).copies = s.copies := rfl
@[simp] theorem State.fail_nextIndex (c : Cause) : (s.fail c).nextIndex = s.nextIndex := rfl
@[simp] theorem State.fail_outstanding (c : Cause) : (s.fail c).outstanding = s.outstanding := rfl
@[simp] theorem State.fail_ctrlPending (c : Cause) : (s.fail c).ctrlPending = s.ctrlPending := rfl
@[simp] theorem State.fail_capValid (c : Cause) : (s.fail c).capValid = s.capValid := rfl
@[simp] theorem State.fail_cap (c : Cause) : (s.fail c).cap = s.cap := rfl
@[simp] theorem State.fail_window (c : Cause) : (s.fail c).window = s.window := rfl
@[simp] theorem State.fail_tStatus (c : Cause) : (s.fail c).tStatus = s.tStatus := rfl
@[simp] theorem State.fail_tComplete (c : Cause) : (s.fail c).tComplete = s.tComplete := rfl
@[simp] theorem State.fail_tGrace (c : Cause) : (s.fail c).tGrace = s.tGrace := rfl
@[simp] theorem State.fail_skipStatus (c : Cause) : (s.fail c).skipStatus = s.skipStatus := rfl
@[simp] theorem State.fail_img (c : Cause) : (s.fail c).img = s.img := rfl
@[simp] theorem State.fail_imgLen (c : Cause) : (s.fail c).imgLen = s.imgLen := rfl
@[simp] theorem State.fail_timers (c : Cause) : (s.fail c).timers = .off := rfl
@[simp] theorem State.fail_ackToken (c : Cause) : (s.fail c).ackToken = s.ackToken := rfl
@[simp] theorem State.fail_badlenFatal (c : Cause) : (s.fail c).badlenFatal = s.badlenFatal := rfl
@[simp] theorem State.fail_tx (c : Cause) : (s.fail c).tx = s.tx := rfl
@[simp] theorem State.fail_responses (c : Cause) :
    (s.fail c).responses = s.responses ++ [.err c] := rfl
@[simp] theorem State.fail_results (c : Cause) : (s.fail c).results = s.results := rfl
@[simp] theorem State.fail_inbox (c : Cause) : (s.fail c).inbox = s.inbox := rfl
@[simp] theorem State.fail_freeCount (c : Cause) : (s.fail c).freeCount = s.freeCount := rfl

/-! ### `State.release` -/

@[simp] theorem State.release_phase : (s.release).phase = .idle := rfl
@[simp] theorem State.release_cause : (s.release).cause = none := rfl
@[simp] theorem State.release_blockCount :
    (s.release).blockCount = Config.freeWord (s.freeCount + 5) := rfl
@[simp] theorem State.release_copies : (s.release).copies = Config.freeWord (s.freeCount + 6) := rfl
@[simp] theorem State.release_nextIndex :
    (s.release).nextIndex = Config.freeWord (s.freeCount + 7) := rfl
@[simp] theorem State.release_outstanding : (s.release).outstanding = s.outstanding := rfl
@[simp] theorem State.release_ctrlPending : (s.release).ctrlPending = s.ctrlPending := rfl
@[simp] theorem State.release_capValid : (s.release).capValid = false := rfl
@[simp] theorem State.release_cap : (s.release).cap = freeCaps s.freeCount := rfl
@[simp] theorem State.release_window : (s.release).window = Config.freeWord (s.freeCount + 8) := rfl
@[simp] theorem State.release_tStatus : (s.release).tStatus = Config.freeDuration s.freeCount := rfl
@[simp] theorem State.release_tComplete :
    (s.release).tComplete = Config.freeDuration (s.freeCount + 1) := rfl
@[simp] theorem State.release_tGrace :
    (s.release).tGrace = Config.freeDuration (s.freeCount + 2) := rfl
@[simp] theorem State.release_skipStatus :
    (s.release).skipStatus = Config.freeBit s.freeCount := rfl
@[simp] theorem State.release_img : (s.release).img = [] := rfl
@[simp] theorem State.release_imgLen : (s.release).imgLen = 0 := rfl
@[simp] theorem State.release_timers : (s.release).timers = .off := rfl
@[simp] theorem State.release_ackToken : (s.release).ackToken = s.ackToken := rfl
@[simp] theorem State.release_badlenFatal : (s.release).badlenFatal = s.badlenFatal := rfl
@[simp] theorem State.release_tx : (s.release).tx = s.tx := rfl
@[simp] theorem State.release_responses : (s.release).responses = s.responses := rfl
@[simp] theorem State.release_results : (s.release).results = s.results := rfl
@[simp] theorem State.release_inbox : (s.release).inbox = s.inbox := rfl
@[simp] theorem State.release_freeCount : (s.release).freeCount = s.freeCount + 9 := rfl

/-! ### `State.loadSession` -/

@[simp] theorem State.loadSession_phase (image : List Byte) (c : Latched) :
    (s.loadSession image c).phase = s.phase := rfl
@[simp] theorem State.loadSession_cause (image : List Byte) (c : Latched) :
    (s.loadSession image c).cause = none := rfl
@[simp] theorem State.loadSession_blockCount (image : List Byte) (c : Latched) :
    (s.loadSession image c).blockCount = blockCountOf image := rfl
@[simp] theorem State.loadSession_copies (image : List Byte) (c : Latched) :
    (s.loadSession image c).copies = c.copies := rfl
@[simp] theorem State.loadSession_nextIndex (image : List Byte) (c : Latched) :
    (s.loadSession image c).nextIndex = 0 := rfl
@[simp] theorem State.loadSession_outstanding (image : List Byte) (c : Latched) :
    (s.loadSession image c).outstanding = 0 := rfl
@[simp] theorem State.loadSession_ctrlPending (image : List Byte) (c : Latched) :
    (s.loadSession image c).ctrlPending = false := rfl
@[simp] theorem State.loadSession_capValid (image : List Byte) (c : Latched) :
    (s.loadSession image c).capValid = false := rfl
@[simp] theorem State.loadSession_cap (image : List Byte) (c : Latched) :
    (s.loadSession image c).cap = freeCaps s.freeCount := rfl
@[simp] theorem State.loadSession_window (image : List Byte) (c : Latched) :
    (s.loadSession image c).window = c.window := rfl
@[simp] theorem State.loadSession_tStatus (image : List Byte) (c : Latched) :
    (s.loadSession image c).tStatus = c.tStatus := rfl
@[simp] theorem State.loadSession_tComplete (image : List Byte) (c : Latched) :
    (s.loadSession image c).tComplete = c.tComplete := rfl
@[simp] theorem State.loadSession_tGrace (image : List Byte) (c : Latched) :
    (s.loadSession image c).tGrace = c.tGrace := rfl
@[simp] theorem State.loadSession_skipStatus (image : List Byte) (c : Latched) :
    (s.loadSession image c).skipStatus = c.skipStatus := rfl
@[simp] theorem State.loadSession_img (image : List Byte) (c : Latched) :
    (s.loadSession image c).img = Memory.ofBytes image := rfl
@[simp] theorem State.loadSession_imgLen (image : List Byte) (c : Latched) :
    (s.loadSession image c).imgLen = image.length := rfl
@[simp] theorem State.loadSession_timers (image : List Byte) (c : Latched) :
    (s.loadSession image c).timers = s.timers := rfl
@[simp] theorem State.loadSession_ackToken (image : List Byte) (c : Latched) :
    (s.loadSession image c).ackToken = s.ackToken := rfl
@[simp] theorem State.loadSession_badlenFatal (image : List Byte) (c : Latched) :
    (s.loadSession image c).badlenFatal = s.badlenFatal := rfl
@[simp] theorem State.loadSession_tx (image : List Byte) (c : Latched) :
    (s.loadSession image c).tx = s.tx := rfl
@[simp] theorem State.loadSession_responses (image : List Byte) (c : Latched) :
    (s.loadSession image c).responses = s.responses := rfl
@[simp] theorem State.loadSession_results (image : List Byte) (c : Latched) :
    (s.loadSession image c).results = s.results := rfl
@[simp] theorem State.loadSession_inbox (image : List Byte) (c : Latched) :
    (s.loadSession image c).inbox = s.inbox := rfl
@[simp] theorem State.loadSession_freeCount (image : List Byte) (c : Latched) :
    (s.loadSession image c).freeCount = s.freeCount + 5 := rfl

/-! ### `State.withFetchWord` -/

@[simp] theorem State.withFetchWord_phase (nbits w : Nat) :
    (s.withFetchWord nbits w).phase = s.phase := rfl
@[simp] theorem State.withFetchWord_cause (nbits w : Nat) :
    (s.withFetchWord nbits w).cause = s.cause := rfl
@[simp] theorem State.withFetchWord_blockCount (nbits w : Nat) :
    (s.withFetchWord nbits w).blockCount = s.blockCount := rfl
@[simp] theorem State.withFetchWord_copies (nbits w : Nat) :
    (s.withFetchWord nbits w).copies = s.copies := rfl
@[simp] theorem State.withFetchWord_nextIndex (nbits w : Nat) :
    (s.withFetchWord nbits w).nextIndex = s.nextIndex := rfl
@[simp] theorem State.withFetchWord_outstanding (nbits w : Nat) :
    (s.withFetchWord nbits w).outstanding = s.outstanding := rfl
@[simp] theorem State.withFetchWord_ctrlPending (nbits w : Nat) :
    (s.withFetchWord nbits w).ctrlPending = s.ctrlPending := rfl
@[simp] theorem State.withFetchWord_capValid (nbits w : Nat) :
    (s.withFetchWord nbits w).capValid = s.capValid := rfl
@[simp] theorem State.withFetchWord_cap (nbits w : Nat) :
    (s.withFetchWord nbits w).cap = s.cap := rfl
@[simp] theorem State.withFetchWord_window (nbits w : Nat) :
    (s.withFetchWord nbits w).window = s.window := rfl
@[simp] theorem State.withFetchWord_tStatus (nbits w : Nat) :
    (s.withFetchWord nbits w).tStatus = s.tStatus := rfl
@[simp] theorem State.withFetchWord_tComplete (nbits w : Nat) :
    (s.withFetchWord nbits w).tComplete = s.tComplete := rfl
@[simp] theorem State.withFetchWord_tGrace (nbits w : Nat) :
    (s.withFetchWord nbits w).tGrace = s.tGrace := rfl
@[simp] theorem State.withFetchWord_skipStatus (nbits w : Nat) :
    (s.withFetchWord nbits w).skipStatus = s.skipStatus := rfl
@[simp] theorem State.withFetchWord_img (nbits w : Nat) :
    (s.withFetchWord nbits w).img = s.img := rfl
@[simp] theorem State.withFetchWord_imgLen (nbits w : Nat) :
    (s.withFetchWord nbits w).imgLen = s.imgLen := rfl
@[simp] theorem State.withFetchWord_timers (nbits w : Nat) :
    (s.withFetchWord nbits w).timers = s.timers := rfl
@[simp] theorem State.withFetchWord_ackToken (nbits w : Nat) :
    (s.withFetchWord nbits w).ackToken = s.ackToken := rfl
@[simp] theorem State.withFetchWord_badlenFatal (nbits w : Nat) :
    (s.withFetchWord nbits w).badlenFatal = s.badlenFatal := rfl
@[simp] theorem State.withFetchWord_tx (nbits w : Nat) : (s.withFetchWord nbits w).tx = s.tx := rfl
@[simp] theorem State.withFetchWord_responses (nbits w : Nat) :
    (s.withFetchWord nbits w).responses = s.responses := rfl
@[simp] theorem State.withFetchWord_results (nbits w : Nat) :
    (s.withFetchWord nbits w).results = s.results := rfl
@[simp] theorem State.withFetchWord_inbox (nbits w : Nat) :
    (s.withFetchWord nbits w).inbox = .rx (tableWordBytes nbits w) :: s.inbox := rfl
@[simp] theorem State.withFetchWord_freeCount (nbits w : Nat) :
    (s.withFetchWord nbits w).freeCount = s.freeCount := rfl

end Sys2Proof.Machine
end

