-- ==== Sys2Proof/Laws/Ops.lean ====
section
/-! SUPPORT. One lemma per shared operation: everything it can answer. Proofs cite these and do not
unfold the operations. -/

namespace Sys2Proof.Machine

@[simp] theorem length_zeros (n : Nat) : (zeros n).length = n := by simp [zeros]

/-- Everything `MemRead` can answer: the bytes asked for, the fault for a byte that is not listed, or the
refusal past `IMG_LEN`. -/
theorem memRead_cases (s : State) (addr n : Nat) :
    (∃ bs, memRead s addr n = .next bs ∧ addr + n ≤ s.imgLen ∧ s.img.readBytes addr n = some bs) ∨
    (memRead s addr n = .fault (.imageAddressAbsent addr) ∧ addr + n ≤ s.imgLen ∧
      s.img.readBytes addr n = none) ∨
    (memRead s addr n = .refused (.readPastImage addr n) ∧ s.imgLen < addr + n) := by
  unfold memRead
  split
  · split
    · exact .inl ⟨_, rfl, by assumption, by assumption⟩
    · exact .inr (.inl ⟨rfl, by assumption, by assumption⟩)
  · exact .inr (.inr ⟨rfl, by omega⟩)

/-- `MemRead` inside a held image answers that slice of the request (R41). -/
theorem memRead_of_image {s : State} {image : List Byte} {addr n : Nat}
    (himg : s.img = Memory.ofBytes image) (hlen : s.imgLen = image.length)
    (h : addr + n ≤ image.length) : memRead s addr n = .next ((image.drop addr).take n) := by
  simp only [memRead, hlen, if_pos h, himg, Memory.readBytes_ofBytes image addr n h]

theorem Memory.length_of_readBytes {m : Memory} {addr n : Nat} {bs : List Byte}
    (h : m.readBytes addr n = some bs) : bs.length = n := by
  induction n generalizing addr bs with
  | zero =>
    simp only [Memory.readBytes, Option.some.injEq] at h
    simp [← h]
  | succ n ih =>
    simp only [Memory.readBytes] at h
    split at h
    · rename_i hxs
      obtain rfl := Option.some.inj h
      simp [ih hxs]
    · cases h

/-- What `CHUNK` has read when it answers a chunk. -/
theorem chunkAt_next {i : Nat} {s : State} {p : List Byte} (h : chunkAt i s = .next p) :
    s.phase ≠ .idle ∧ i < s.blockCount.toNat ∧ p.length = 16 ∧
      ∃ bs, s.img.readBytes (16 * i) (min 16 (s.imgLen - 16 * i)) = some bs ∧
        p = bs ++ zeros (16 - min 16 (s.imgLen - 16 * i)) := by
  unfold chunkAt at h
  split at h
  · cases h
  split at h
  · rename_i hidle hi
    rcases memRead_cases s (16 * i) (min 16 (s.imgLen - 16 * i)) with ⟨bs, hr, -, hb⟩ | ⟨hr, -⟩ | ⟨hr, -⟩
    · simp only [Config.chunkLen, hr] at h
      cases h
      refine ⟨hidle, hi, ?_, bs, hb, rfl⟩
      simp [Memory.length_of_readBytes hb]
    all_goals
      simp only [Config.chunkLen, hr] at h
      cases h
  · cases h

/-- With the image of a request held, `CHUNK(i)` answers the slice of that image, zero-padded
(R112). -/
theorem chunkAt_of_image {i : Nat} {s : State} {image : List Byte} (hbusy : s.phase ≠ .idle)
    (hi : i < s.blockCount.toNat) (hlen : s.imgLen = image.length)
    (himg : s.img = Memory.ofBytes image) (hin : 16 * i ≤ image.length) :
    chunkAt i s = .next ((image.drop (16 * i)).take 16 ++
      zeros (16 - min 16 (image.length - 16 * i))) := by
  have hr := memRead_of_image himg hlen
    (by omega : 16 * i + min 16 (image.length - 16 * i) ≤ image.length)
  have htake : (image.drop (16 * i)).take (min 16 (image.length - 16 * i)) =
      (image.drop (16 * i)).take 16 := by
    apply List.ext_getElem?
    intro k
    simp only [List.getElem?_take, List.getElem?_drop]
    split <;> split <;> first | rfl | omega | skip
    rw [List.getElem?_eq_none (by omega)]
  simp only [chunkAt, if_neg hbusy, if_pos hi, Config.chunkLen, hlen, hr, htake]

/-- The validation of an image (R110), as arithmetic on its length. -/
theorem imageProblem_eq_none {image : List Byte} :
    imageProblem image = none ↔ 1 ≤ image.length ∧ image.length ≤ 1048560 := by
  unfold imageProblem
  by_cases h0 : image.length = 0
  · simp [h0]
  · by_cases h1 : Config.maxBlocks < ceilDiv image.length Config.chunkLen
    · rw [if_neg h0, if_pos h1]
      simp only [ceilDiv, Config.maxBlocks, Config.chunkLen] at h1
      simp
      omega
    · rw [if_neg h0, if_neg h1]
      simp only [ceilDiv, Config.maxBlocks, Config.chunkLen] at h1
      simp
      omega

theorem imageProblem_eq_empty {image : List Byte} :
    imageProblem image = some .emptyImage ↔ image.length = 0 := by
  unfold imageProblem
  split
  · simp_all
  · split <;> simp_all

theorem imageProblem_eq_tooLarge {image : List Byte} :
    imageProblem image = some .imageTooLarge ↔ 1048561 ≤ image.length := by
  unfold imageProblem
  by_cases h0 : image.length = 0
  · simp [h0]
  · by_cases h1 : Config.maxBlocks < ceilDiv image.length Config.chunkLen
    · rw [if_neg h0, if_pos h1]
      simp only [ceilDiv, Config.maxBlocks, Config.chunkLen] at h1
      simp
      omega
    · rw [if_neg h0, if_neg h1]
      simp only [ceilDiv, Config.maxBlocks, Config.chunkLen] at h1
      simp
      omega

theorem imageProblem_cases (image : List Byte) :
    imageProblem image = none ∨ imageProblem image = some .emptyImage ∨
      imageProblem image = some .imageTooLarge := by
  unfold imageProblem
  split
  · exact .inr (.inl rfl)
  · split
    · exact .inr (.inr rfl)
    · exact .inl rfl

/-- The block count of an accepted image fits its 16 bits (R111). -/
theorem blockCountOf_toNat {image : List Byte} (h : imageProblem image = none) :
    (blockCountOf image).toNat = ceilDiv image.length 16 := by
  rw [imageProblem_eq_none] at h
  simp only [blockCountOf, Config.chunkLen, ceilDiv, BitVec.toNat_ofNat]
  omega

/-- Every latched window is legal (R21). -/
theorem latch_window_pos {cfg : JobConfig} {c : Latched} (h : latch cfg = .ok c) : 1 ≤ c.window := by
  unfold latch at h
  split at h
  · cases h
  · rename_i w hw
    split at h
    · cases h
      unfold windowOperand at hw
      split at hw
      · obtain rfl := Option.some.inj hw
        show (1 : Word) ≤ Config.defaultWindow
        decide
      · split at hw
        · obtain rfl := Option.some.inj hw
          show (1 : Word).toNat ≤ (BitVec.ofNat 16 _).toNat
          rw [BitVec.toNat_ofNat, show (1 : Word).toNat = 1 from rfl]
          omega
        · cases hw
    · cases h

/-- Everything `JOB_LOAD` can answer (R110). -/
theorem loadJob_cases (image : List Byte) (cfg : JobConfig) (s : State) :
    (∃ c, imageProblem image = some c ∧ loadJob image cfg s = .fault c) ∨
    (∃ r, imageProblem image = none ∧ latch cfg = .error r ∧ loadJob image cfg s = .refused r) ∨
    (∃ c, imageProblem image = none ∧ latch cfg = .ok c ∧
      loadJob image cfg s = .next (s.loadSession image c)) := by
  unfold loadJob
  split
  · rename_i c h
    exact .inl ⟨c, h, rfl⟩
  · rename_i h
    split
    · rename_i r hr
      exact .inr (.inl ⟨r, h, hr, rfl⟩)
    · rename_i c hc
      exact .inr (.inr ⟨c, h, hc, rfl⟩)

/-- A pending write retired: the control write if one is pending, otherwise a slot (R129). -/
theorem State.retireWrite_cases (s : State) (h : s.WritePending) :
    (s.ctrlPending = true ∧ s.retireWrite = s.retireCtrl) ∨
      (s.ctrlPending = false ∧ 0 < s.outstanding ∧ s.retireWrite = s.returnSlot) := by
  unfold State.retireWrite
  rcases hc : s.ctrlPending with _ | _
  · refine .inr ⟨rfl, ?_, by simp⟩
    simpa [State.WritePending, hc] using h
  · exact .inl ⟨rfl, by simp⟩

/-- Everything consuming a notification can do (the `rx` columns of R143). -/
theorem State.receive_cases (d : Except DecodeKind ControlFrame) (s : State) :
    s.receive d = s ∨
    (∃ f, d = .ok f ∧ f.op = .status ∧ s.phase = .awaitingStatus ∧
      s.receive d = (s.latchCaps f).enterStarting) ∨
    (∃ f, d = .ok f ∧ f.op = .complete ∧ f.w1 = s.blockCount ∧ s.phase = .awaitingCompletion ∧
      s.receive d = s.enterAcknowledging) ∨
    (d = .error .badLength ∧ s.InFrameWait ∧ s.badlenFatal = true ∧
      s.receive d = s.fail (.decodeError .badLength)) := by
  unfold State.receive
  rcases hp : s.phase with _ | _ | _ | _ | _ | _ | _ | _ <;> simp only [true_or]
  · cases d with
    | ok f =>
      by_cases hf : f.op = .status
      · exact .inr (.inl ⟨f, rfl, hf, trivial, by simp [hf]⟩)
      · exact .inl (by simp [hf])
    | error k =>
      by_cases hk : k = .badLength ∧ s.badlenFatal = true
      · exact .inr (.inr (.inr ⟨by rw [hk.1], .inl hp, hk.2, by simp [State.undecodableInWait, hk]⟩))
      · exact .inl (by simp [State.undecodableInWait, hk])
  · cases d with
    | ok f =>
      by_cases hf : f.op = .complete ∧ f.w1 = s.blockCount
      · exact .inr (.inr (.inl ⟨f, rfl, hf.1, hf.2, trivial, by simp [hf]⟩))
      · exact .inl (by simp [hf])
    | error k =>
      by_cases hk : k = .badLength ∧ s.badlenFatal = true
      · exact .inr (.inr (.inr ⟨by rw [hk.1], .inr hp, hk.2, by simp [State.undecodableInWait, hk]⟩))
      · exact .inl (by simp [State.undecodableInWait, hk])

/-- `receive` outside the two frame waits: the notification is discarded (R130, R137 to R139). -/
theorem State.receive_of_not_wait (d : Except DecodeKind ControlFrame) (s : State)
    (h : ¬ s.InFrameWait) : s.receive d = s := by
  rcases s.receive_cases d with h' | ⟨_, _, _, hp, _⟩ | ⟨_, _, _, _, hp, _⟩ | ⟨_, hp, _⟩
  · exact h'
  · exact absurd (.inl hp) h
  · exact absurd (.inr hp) h
  · exact absurd hp h

/-- Everything `NEXT_BLOCK` can do when it answers a next state (R114). -/
theorem nextBlockStep_next {s t : State} (h : nextBlockStep s = .next t) :
    (¬ s.NextBlockEnabled ∧ t = s) ∨
      (s.NextBlockEnabled ∧ ∃ p, chunkAt s.nextIndex.toNat s = .next p ∧
        t = s.emitBlock (dataBytes s.nextIndex p)) := by
  unfold nextBlockStep at h
  split at h
  · rename_i hg
    rcases hc : chunkAt s.nextIndex.toNat s with p | f | r
    · rw [hc] at h
      cases h
      exact .inr ⟨hg, p, rfl, rfl⟩
    · rw [hc] at h; cases h
    · rw [hc] at h; cases h
  · rename_i hg
    cases h
    exact .inl ⟨hg, rfl⟩

end Sys2Proof.Machine
end

