-- ==== Sys2Proof/Laws/PerInstr.lean ====
section
/-! SUPPORT. The per-instruction family `FrameLength`: a well-formed instruction that has bytes on the
wire has 12 of them or 20, never another number (R60, R61, R62); operations and sequencer steps have
none (D25). -/

namespace Sys2Proof.Laws.FrameLength

/-- What the family says of one instruction. -/
def Statement (i : Instr) : Prop :=
  ∀ b, i.wf = true → encode i = some b → b.length = 12 ∨ b.length = 20

/-- A control layout has 12 bytes. -/
theorem of_control {i : Instr} {op : Opcode} {w1 w2 w3 w4 w5 : Word}
    (h : encode i = some (controlBytes op w1 w2 w3 w4 w5)) : Statement i := by
  intro b _ hb
  rw [h] at hb
  obtain rfl := Option.some.inj hb
  exact .inl rfl

/-- What has no encoding has no bytes to count. -/
theorem of_none {i : Instr} (h : encode i = none) : Statement i := by
  intro b _ hb
  rw [h] at hb
  cases hb

theorem status (w1 w2 w3 w4 w5 : Word) : Statement (.status w1 w2 w3 w4 w5) := of_control rfl

theorem start (dir : Direction) (w1 w2 w3 w4 w5 : Word) : Statement (.start dir w1 w2 w3 w4 w5) :=
    of_control rfl

theorem ack (dir : Direction) (bc token : Word) : Statement (.ack dir bc token) := of_control rfl

theorem complete (w1 w2 w3 w4 w5 : Word) : Statement (.complete w1 w2 w3 w4 w5) := of_control rfl

theorem midProgress (w1 w2 w3 w4 w5 : Word) : Statement (.midProgress w1 w2 w3 w4 w5) :=
    of_control rfl

theorem data (dir : Direction) (index : Word) (payload : List Byte) : Statement (.data dir index payload) := by
  intro b hwf hb
  obtain rfl := Option.some.inj hb
  simp only [Instr.wf, payloadLengthOk, Config.chunkLen, Bool.and_eq_true, beq_iff_eq] at hwf
  exact .inr (by rw [length_dataBytes, hwf.1])

theorem encCtrl (op : Byte) (w1 w2 w3 w4 w5 : Nat) : Statement (.encCtrl op w1 w2 w3 w4 w5) :=
    of_none rfl

theorem decCtrl (b : List Byte) : Statement (.decCtrl b) := of_none rfl

theorem encData (index : Nat) (payload : List Byte) : Statement (.encData index payload) :=
    of_none rfl

theorem decData (b : List Byte) : Statement (.decData b) := of_none rfl

theorem acquire : Statement .acquire := of_none rfl

theorem release : Statement .release := of_none rfl

theorem jobLoad (image : List Byte) (cfg : JobConfig) : Statement (.jobLoad image cfg) :=
    of_none rfl

theorem chunk (i : Nat) : Statement (.chunk i) := of_none rfl

theorem opNextBlock : Statement .opNextBlock := of_none rfl

theorem printReqAccept (image : List Byte) (cfg : JobConfig) : Statement (.printReqAccept image cfg) :=
    of_none rfl

theorem printReqReject (image : List Byte) (cfg : JobConfig) : Statement (.printReqReject image cfg) :=
    of_none rfl

theorem rxStatus (b : List Byte) : Statement (.rxStatus b) := of_none rfl

theorem skipStatus : Statement .skipStatus := of_none rfl

theorem tStatus : Statement .tStatus := of_none rfl

theorem issueStart : Statement .issueStart := of_none rfl

theorem txdoneOkInStarting : Statement .txdoneOkInStarting := of_none rfl

theorem nextBlock : Statement .nextBlock := of_none rfl

theorem txdoneOkInStreaming : Statement .txdoneOkInStreaming := of_none rfl

theorem txdoneErr (e : TransportInfo) : Statement (.txdoneErr e) := of_none rfl

theorem rxDiscard (b : List Byte) : Statement (.rxDiscard b) := of_none rfl

theorem rxCompleteMatch (b : List Byte) : Statement (.rxCompleteMatch b) := of_none rfl

theorem issueAck : Statement .issueAck := of_none rfl

theorem txdoneOkInAcknowledging : Statement .txdoneOkInAcknowledging := of_none rfl

theorem rxOtherInAwaitingCompletion (b : List Byte) : Statement (.rxOtherInAwaitingCompletion b) :=
    of_none rfl

theorem tComplete : Statement .tComplete := of_none rfl

theorem rxInDone (b : List Byte) : Statement (.rxInDone b) := of_none rfl

theorem tGrace : Statement .tGrace := of_none rfl

theorem releaseSession : Statement .releaseSession := of_none rfl

theorem cancel : Statement .cancel := of_none rfl

theorem rxClosed : Statement .rxClosed := of_none rfl

theorem rxUndecodableInWait (b : List Byte) : Statement (.rxUndecodableInWait b) := of_none rfl

end Sys2Proof.Laws.FrameLength
end

