-- ==== Sys2Proof/Laws/Step.lean ====
section
/-! SUPPORT. Said once: everything a step can do. `Moved s e t` lists, for an input `e` consumed in a
state `s`, every next state `t` with the guard under which it is reached; `deliver_moved` and
`step_moved` say that a step does nothing else. Proofs about steps are case analyses of `Moved`. -/

namespace Sys2Proof.Machine

/-- The moves of the sequencer (44_job_sequencer.md) and the codec calls. -/
inductive Moved (s : State) : Event → State → Prop where
  /-- nothing happens: a step not enabled, an event with no effect in this state (R143) -/
  | same (e : Event) : Moved s e s
  /-- a codec operation returned a value (R90 to R93) -/
  | returned (c : CodecCall) (r : OpResult) : Moved s (.codec c) (s.giveResult r)
  /-- R121 -/
  | accepted (image : List Byte) (cfg : JobConfig) (c : Latched) (hidle : s.phase = .idle)
      (himage : imageProblem image = none) (hcfg : latch cfg = .ok c) :
      Moved s (.printReq image cfg) (s.loadSession image c).enterAwaitingStatus
  /-- R122(a) -/
  | rejected (image : List Byte) (cfg : JobConfig) (c : Cause) (hidle : s.phase = .idle)
      (himage : imageProblem image = some c) :
      Moved s (.printReq image cfg) (s.respond (.err c))
  /-- R122(b) -/
  | inProgress (image : List Byte) (cfg : JobConfig) (hbusy : s.Busy) :
      Moved s (.printReq image cfg) (s.respond (.err .jobInProgress))
  /-- R123 -/
  | statusTaken (b : List Byte) (f : ControlFrame) (hphase : s.phase = .awaitingStatus)
      (hframe : decControl b = .ok f) (hop : f.op = .status) :
      Moved s (.rx b) (s.latchCaps f).enterStarting
  /-- R124, `skip_status` -/
  | statusSkipped (hphase : s.phase = .awaitingStatus) (hskip : s.skipStatus = true) :
      Moved s (.spontaneous .skipStatus) s.enterStarting
  /-- R124, `t_status` -/
  | statusTimedOut (hphase : s.phase = .awaitingStatus) : Moved s .tStatus s.enterStarting
  /-- R142(c) -/
  | lengthFatal (b : List Byte) (hwait : s.InFrameWait) (hfatal : s.badlenFatal = true)
      (hframe : decControl b = .error .badLength) :
      Moved s (.rx b) (s.fail (.decodeError .badLength))
  /-- R125 -/
  | startIssued (hguard : s.IssueStartEnabled) :
      Moved s (.spontaneous .issueStart) (s.issueControl (startFrame s))
  /-- R126 -/
  | startConfirmed (hphase : s.phase = .starting) (hctrl : s.ctrlPending = true) :
      Moved s .txdoneOk s.enterStreaming
  /-- R127 -/
  | blockEmitted (hguard : s.NextBlockEnabled) (p : List Byte)
      (hchunk : chunkAt s.nextIndex.toNat s = .next p) :
      Moved s (.spontaneous .nextBlock) (s.emitBlock (dataBytes s.nextIndex p))
  /-- R128 without R131 -/
  | slotReturned (hphase : s.phase = .streaming) (hout : 0 < s.outstanding)
      (hrest : ¬ s.returnSlot.AllSent) : Moved s .txdoneOk s.returnSlot
  /-- R128 with R131 -/
  | allSent (hphase : s.phase = .streaming) (hout : 0 < s.outstanding)
      (hsent : s.returnSlot.AllSent) : Moved s .txdoneOk s.returnSlot.enterAwaitingCompletion
  /-- R129 -/
  | writeFailed (e : TransportInfo)
      (hphase : s.phase = .starting ∨ s.phase = .streaming ∨ s.phase = .acknowledging)
      (hpending : s.WritePending) :
      Moved s (.txdoneErr e) (s.retireWrite.fail (.transportError e))
  /-- R139, a late `txdone(ok)` -/
  | okRetired (hphase : s.phase = .failed) (hpending : s.WritePending) :
      Moved s .txdoneOk s.retireWrite
  /-- R139, a late `txdone(err e)` -/
  | errRetired (e : TransportInfo) (hphase : s.phase = .failed) (hpending : s.WritePending) :
      Moved s (.txdoneErr e) s.retireWrite
  /-- R132 -/
  | completed (b : List Byte) (f : ControlFrame) (hphase : s.phase = .awaitingCompletion)
      (hframe : decControl b = .ok f) (hop : f.op = .complete) (hcount : f.w1 = s.blockCount) :
      Moved s (.rx b) s.enterAcknowledging
  /-- R133 -/
  | ackIssued (hguard : s.IssueAckEnabled) :
      Moved s (.spontaneous .issueAck) (s.issueControl (ackFrame s))
  /-- R134 -/
  | ackConfirmed (hphase : s.phase = .acknowledging) (hctrl : s.ctrlPending = true) :
      Moved s .txdoneOk s.enterDone
  /-- R136 -/
  | timedOut (hphase : s.phase = .awaitingCompletion) : Moved s .tComplete (s.fail .jobTimeout)
  /-- R138 -/
  | drained (hphase : s.phase = .done) : Moved s .tGrace s.release
  /-- R139 -/
  | released (hguard : s.ReleaseEnabled) : Moved s (.spontaneous .releaseSession) s.release
  /-- R140 -/
  | cancelled (hphase : s.Cancellable) : Moved s .cancel (s.fail .cancelled)

/-- A notification that decodes as a 20-byte data frame is a wrong-length control frame (R49). -/
theorem decControl_of_length_ne {b : List Byte} (h : b.length ≠ 12) :
    decControl b = .error .badLength := if_pos h

/-- What the decoder hands to `exec` is the notification as `DEC_CTRL` sees it (R49): running it is
`receive` of the decoded control frame. -/
theorem exec_of_decode {b : List Byte} {i : Instr} (h : decode b = .ok i) (s : State) :
    exec i s = .next (s.receive (decControl b)) := by
  unfold decode at h
  split at h
  · rename_i hlen
    split at h
    · cases h
      rw [decControl_of_length_ne (by rw [hlen]; decide)]
      rfl
    · cases h
  · split at h
    · rename_i f hf
      cases h
      rw [hf]
      obtain ⟨op, w1, w2, w3, w4, w5⟩ := f
      cases op <;> rfl
    · cases h

/-- What the decoder rejects, `DEC_CTRL` rejects too, and running its row is `receive` of the error. -/
theorem exec_undecodableRow {b : List Byte} {k : DecodeKind} (h : decode b = .error k) (s : State) :
    exec (undecodableRow b s) s = .next (s.receive (decControl b)) := by
  obtain ⟨k', hk⟩ : ∃ k', decControl b = .error k' := by
    unfold decode at h
    split at h
    · rename_i hlen
      exact ⟨_, decControl_of_length_ne (by rw [hlen]; decide)⟩
    · split at h
      · cases h
      · exact ⟨_, by assumption⟩
  rw [hk]
  rcases hp : s.phase with _ | _ | _ | _ | _ | _ | _ | _ <;>
    simp [undecodableRow, exec, State.receive, hp, hk, execRxUndecodableInWait, execRxDiscard,
      execRxInDone]

/-- A notification delivered (R179): `DEC_CTRL`, then the effect of the present state. -/
theorem deliverRx_eq (b : List Byte) (s : State) :
    deliverRx b s = .next (s.receive (decControl b)) := by
  unfold deliverRx
  split
  · exact exec_of_decode (by assumption) s
  · exact exec_undecodableRow (by assumption) s

theorem deliverRx_moved {b : List Byte} {s t : State} (h : deliverRx b s = .next t) :
    Moved s (.rx b) t := by
  rw [deliverRx_eq] at h
  cases h
  rcases s.receive_cases (decControl b) with h | ⟨f, hf, hop, hp, h⟩ | ⟨f, hf, hop, hw, hp, h⟩ |
    ⟨hk, hw, hb, h⟩
  · rw [h]; exact .same _
  · rw [h]; exact .statusTaken b f hp hf hop
  · rw [h]; exact .completed b f hp hf hop hw
  · rw [h]; exact .lengthFatal b hw hb hk

theorem deliverPrintReq_moved {image : List Byte} {cfg : JobConfig} {s t : State}
    (h : deliverPrintReq image cfg s = .next t) : Moved s (.printReq image cfg) t := by
  unfold deliverPrintReq at h
  by_cases hidle : s.phase = .idle
  · rcases loadJob_cases image cfg s with ⟨c, hi, hl⟩ | ⟨r, hi, hc, hl⟩ | ⟨c, hi, hc, hl⟩
    · simp only [exec, execPrintReqReject, hidle, hi, hl, Option.isSome_some, or_true, if_true] at h
      cases h
      exact .rejected image cfg c hidle hi
    · simp [exec, execPrintReqAccept, hidle, hi, hl] at h
    · simp only [exec, execPrintReqAccept, hidle, hi, hl, ne_eq, not_true_eq_false,
        Option.isSome_none, Bool.false_eq_true, or_self, if_false, if_true] at h
      cases h
      exact .accepted image cfg c hidle hi hc
  · simp only [exec, execPrintReqReject, ne_eq, hidle, not_false_eq_true, true_or, if_true,
      if_false] at h
    cases h
    exact .inProgress image cfg hidle

theorem deliverTxdoneOk_moved {s t : State} (h : deliverTxdoneOk s = .next t) :
    Moved s .txdoneOk t := by
  unfold deliverTxdoneOk at h
  rcases hp : s.phase with _ | _ | _ | _ | _ | _ | _ | _ <;> rw [hp] at h
  · cases h
  · cases h
  · simp only [exec, execTxdoneOkInStarting, hp, if_true] at h
    split at h
    · cases h; exact .startConfirmed hp (by assumption)
    · cases h
  · simp only [exec, execTxdoneOkInStreaming, hp, if_true] at h
    split at h
    · split at h
      · cases h; exact .allSent hp (by assumption) (by assumption)
      · cases h; exact .slotReturned hp (by assumption) (by assumption)
    · cases h
  · cases h
  · simp only [exec, execTxdoneOkInAcknowledging, hp, if_true] at h
    split at h
    · cases h; exact .ackConfirmed hp (by assumption)
    · cases h
  · cases h
  · simp only [absorbTxdoneOk] at h
    split at h
    · cases h; exact .okRetired hp (by assumption)
    · cases h

theorem execTxdoneErr_moved {e : TransportInfo} {s t : State} (h : execTxdoneErr e s = .next t) :
    Moved s (.txdoneErr e) t := by
  unfold execTxdoneErr at h
  rcases hp : s.phase with _ | _ | _ | _ | _ | _ | _ | _ <;> simp only [hp] at h
  · cases h
  · cases h
  · split at h
    · cases h; exact .writeFailed e (.inl hp) (by assumption)
    · cases h
  · split at h
    · cases h; exact .writeFailed e (.inr (.inl hp)) (by assumption)
    · cases h
  · cases h
  · split at h
    · cases h; exact .writeFailed e (.inr (.inr hp)) (by assumption)
    · cases h
  · cases h
  · split at h
    · cases h; exact .errRetired e hp (by assumption)
    · cases h

theorem spontaneous_moved {k : Spontaneous} {s t : State} (h : exec (spontaneousRow k) s = .next t) :
    Moved s (.spontaneous k) t := by
  cases k with
  | skipStatus =>
    simp only [spontaneousRow, exec, execSkipStatus] at h
    split at h
    · rename_i hg; cases h; exact .statusSkipped hg.1 hg.2
    · cases h; exact .same _
  | issueStart =>
    simp only [spontaneousRow, exec, execIssueStart] at h
    split at h
    · rename_i hg; cases h; exact .startIssued hg
    · cases h; exact .same _
  | nextBlock =>
    rcases nextBlockStep_next h with ⟨-, rfl⟩ | ⟨hg, p, hc, rfl⟩
    · exact .same _
    · exact .blockEmitted hg p hc
  | issueAck =>
    simp only [spontaneousRow, exec, execIssueAck] at h
    split at h
    · rename_i hg; cases h; exact .ackIssued hg
    · cases h; exact .same _
  | releaseSession =>
    simp only [spontaneousRow, exec, execReleaseSession] at h
    split at h
    · rename_i hg; cases h; exact .released hg
    · cases h; exact .same _

/-- Everything that consuming one input can do. -/
theorem deliver_moved {e : Event} {s t : State} (h : deliver e s = .next t) : Moved s e t := by
  cases e with
  | printReq image cfg => exact deliverPrintReq_moved h
  | rx b => exact deliverRx_moved h
  | rxClosed => cases h; exact .same _
  | txdoneOk => exact deliverTxdoneOk_moved h
  | txdoneErr e => exact execTxdoneErr_moved h
  | tStatus =>
    simp only [deliver, exec, execTStatus] at h
    split at h
    · cases h; exact .statusTimedOut (by assumption)
    · cases h; exact .same _
  | tComplete =>
    simp only [deliver, exec, execTComplete] at h
    split at h
    · cases h; exact .timedOut (by assumption)
    · cases h; exact .same _
  | tGrace =>
    simp only [deliver, exec, execTGrace] at h
    split at h
    · cases h; exact .drained (by assumption)
    · cases h; exact .same _
  | cancel =>
    simp only [deliver, exec, execCancel] at h
    split at h
    · cases h; exact .cancelled (by assumption)
    · cases h; exact .same _
  | spontaneous k => exact spontaneous_moved h
  | codec c =>
    cases c <;> (cases h; exact .returned _ _)

/-- Everything one step can do: wait, unchanged, or consume the head of the inbox. -/
theorem step_moved {s t : State} (h : step s = .next t) :
    (s.inbox = [] ∧ t = s) ∨
      ∃ e rest, s.inbox = e :: rest ∧ Moved { s with inbox := rest } e t := by
  unfold step at h
  split at h
  · cases h; exact .inl ⟨by assumption, rfl⟩
  · exact .inr ⟨_, _, by assumption, deliver_moved h⟩

end Sys2Proof.Machine
end

