-- ==== Sys2Proof/Tests/Slice0.lean ====
section
/-! SUPPORT. The model's own tests. Expected results come from 95_test_vectors.md (a test's comment
names the row) or from the rule it cites. Then one witness for each obligation that has hypotheses: a
concrete state and operands that meet them. -/

namespace Sys2Proof.Tests

open Sys2Proof Sys2Proof.Machine

/-! ### Helpers -/

/-- The answer is a next state with the property. -/
def after (r : Result) (p : State → Bool) : Bool :=
  match r with
  | .next t => p t
  | .fault _ => false
  | .refused _ => false

/-- The answer is the given refusal. -/
def refuses (r : Result) (x : Refusal) : Bool :=
  match r with
  | .next _ => false
  | .fault _ => false
  | .refused y => x == y

/-- The 40-byte image of section 2.7: byte `i` is `A0 + i`. -/
def img40 : List Byte := (List.range 40).map fun i => BitVec.ofNat 8 (0xA0 + i)

/-- A request with the three durations and nothing else. -/
def cfg : JobConfig := ⟨none, some 5, some 6, some 7, none, none⟩

/-- A session of the 40-byte image (`BLOCK_COUNT = 3`, `WINDOW = 2`, `COPIES = 1`, `ACK_TOKEN = 1`). -/
def job (p : Phase) (next out : Word) (ctrl : Bool) : State :=
  { State.reset with
    phase := p, nextIndex := next, outstanding := out, ctrlPending := ctrl
    cause := if p = .failed then some .cancelled else none
    blockCount := 3, copies := 1, window := 2, img := Memory.ofBytes img40, imgLen := 40, ackToken := 1
    timers := ⟨decide (p = .awaitingStatus), decide (p = .awaitingCompletion), decide (p = .done)⟩ }

/-- `START 3, 1` (F1). -/
def frameF1 : List Byte := [0x04, 0, 3, 0, 1, 0, 0, 0, 0, 0, 0, 0]
/-- `COMPLETE 3, 1, 0, 0, 0` (F5). -/
def frameF5 : List Byte := [0x06, 0, 3, 0, 1, 0, 0, 0, 0, 0, 0, 0]
/-- `COMPLETE 4, 1, 0, 0, 0` (F6). -/
def frameF6 : List Byte := [0x06, 0, 4, 0, 1, 0, 0, 0, 0, 0, 0, 0]
/-- `STATUS 0, 0, 0, 0, 0` (F7). -/
def frameF7 : List Byte := [0x02, 0, 0, 0, 0, 0, 0, 0, 0, 0, 0, 0]
/-- The 11-byte frame of C9. -/
def frameC9 : List Byte := [0x06, 0, 0x3A, 0, 1, 0, 0, 0, 0, 0, 0]
/-- The unknown opcode of C6. -/
def frameC6 : List Byte := [0x03, 0, 0, 0, 0, 0, 0, 0, 0, 0, 0, 0]
/-- Block 2 of the 40-byte image (section 2.7). -/
def block2 : List Byte := [0xC0, 0xC1, 0xC2, 0xC3, 0xC4, 0xC5, 0xC6, 0xC7, 0, 0, 0, 0, 0, 0, 0, 0]

/-! ### WellFormed: one ill-formed term for each check, and the nearest accepted one -/

theorem test_wf_payload_of_15 : Instr.wf (.data .received 0 (List.replicate 15 0)) = false := by decide
theorem test_wf_payload_of_16 : Instr.wf (.data .received 0xFFFF (List.replicate 16 0)) = true := by
  decide
theorem test_wf_sent_start_with_word : Instr.wf (.start .sent 1 1 0 0 1) = false := by decide
theorem test_wf_sent_start : Instr.wf (.start .sent 1 1 0 0 0) = true := by decide
theorem test_wf_sent_index_65535 : Instr.wf (.data .sent 0xFFFF (List.replicate 16 0)) = false := by
  decide
theorem test_wf_sent_index_65534 : Instr.wf (.data .sent 0xFFFE (List.replicate 16 0)) = true := by
  decide

/-! ### Decode: words written out from the layouts of R60 and R61 -/

/-- C4. -/
theorem test_decode_status :
    decode [0x02, 0x00, 0x34, 0x12, 0xCD, 0xAB, 0x01, 0x00, 0x00, 0x80, 0xFF, 0xFF]
      = .ok (.status 0x1234 0xABCD 1 0x8000 0xFFFF) := by rfl
/-- E7, the byte-order probe, read back (R94). -/
theorem test_decode_start :
    decode [0x04, 0x00, 0x00, 0x01, 0xFF, 0x00, 0x00, 0x00, 0x00, 0x00, 0x00, 0x00]
      = .ok (.start .received 256 255 0 0 0) := by rfl
/-- F3: an ACK is a frame of opcode `Start`; the decoder does not classify it (R65). -/
theorem test_decode_ack_is_start :
    decode [0x04, 0x00, 0x03, 0x00, 0x5A, 0xA5, 0x00, 0x00, 0x00, 0x00, 0x00, 0x00]
      = .ok (.start .received 3 0xA55A 0 0 0) := by rfl
/-- F3, encoded. -/
theorem test_encode_ack :
    encode (.ack .sent 3 0xA55A) = some [0x04, 0x00, 0x03, 0x00, 0x5A, 0xA5, 0, 0, 0, 0, 0, 0] := by rfl
/-- C2: pad ignored, words not checked. -/
theorem test_decode_complete :
    decode [0x06, 0xFF, 0x3A, 0x00, 0x01, 0x00, 0x02, 0x00, 0x03, 0x00, 0x04, 0x00]
      = .ok (.complete 58 1 2 3 4) := by rfl
/-- C3. -/
theorem test_decode_midProgress :
    decode [0x07, 0x00, 0xFF, 0xFF, 0x00, 0x00, 0x00, 0x00, 0x00, 0x00, 0x00, 0x80]
      = .ok (.midProgress 65535 0 0 0 32768) := by rfl
/-- D8 (a payload that looks like markers). -/
theorem test_decode_data :
    decode [0x55, 0x00, 0x00, 0x55, 0x55, 0, 0x55, 0, 0x55, 0, 0x55, 0, 0x55, 0, 0x55, 0, 0x55, 0, 0x55, 0]
      = .ok (.data .received 0x5500 [0x55, 0, 0x55, 0, 0x55, 0, 0x55, 0, 0x55, 0, 0x55, 0, 0x55, 0, 0x55, 0])
    := by rfl
/-- C12: the length is checked before the opcode. -/
theorem test_decode_length_first :
    decode [0x99, 0x00, 0x3A, 0x00, 0x01, 0x00, 0x00, 0x00, 0x00, 0x00, 0x00] = .error .badLength := by rfl
/-- C7: the data marker at control length. -/
theorem test_decode_marker_at_control_length :
    decode [0x55, 0, 0, 0, 0, 0, 0, 0, 0, 0, 0, 0] = .error .unknownOpcode := by rfl
/-- X3: the second marker byte. -/
theorem test_decode_second_marker :
    decode ([0x55, 0x01, 0x39, 0x00] ++ List.replicate 16 0xAA) = .error .unknownOpcode := by rfl
/-- A table word with its bits above `nbits` zero. -/
theorem test_decodeTableWord_complete :
    decodeTableWord 96 0x3A0006 = some (.complete 58 0 0 0 0) := by rfl
theorem test_decodeTableWord_data :
    decodeTableWord 160 0x390055 = some (.data .received 57 (List.replicate 16 0)) := by rfl
/-- The frame placed by `withFetchWord` is the one the next step runs. -/
theorem test_withFetchWord_runs :
    after (step ((job .awaitingCompletion 3 0 false).withFetchWord 96 0x30006))
      (fun t => t.phase == .acknowledging && t.inbox == []) = true := by rfl

/-! ### Operations -/

/-- E3. -/
theorem test_encCtrl : after (exec (.encCtrl 0x02 0x1234 0xABCD 1 0x8000 0xFFFF) .reset)
    (fun t => t.results ==
      [.bytes [0x02, 0, 0x34, 0x12, 0xCD, 0xAB, 1, 0, 0, 0x80, 0xFF, 0xFF]]) = true := by decide
/-- E11. -/
theorem test_encCtrl_range : after (exec (.encCtrl 0x04 1 1 0 0 65536) .reset)
    (fun t => t.results == [.error .encodingError]) = true := by decide
/-- C2. -/
theorem test_decCtrl :
    after (exec (.decCtrl [0x06, 0xFF, 0x3A, 0, 1, 0, 2, 0, 3, 0, 4, 0]) .reset)
      (fun t => t.results == [.control ⟨.complete, 58, 1, 2, 3, 4⟩]) = true := by decide
/-- C10. -/
theorem test_decCtrl_13 : after (exec (.decCtrl [0x06, 0, 0x3A, 0, 1, 0, 0, 0, 0, 0, 0, 0, 0]) .reset)
    (fun t => t.results == [.error (.decodeError .badLength)]) = true := by decide
/-- D5. -/
theorem test_encData : after (exec (.encData 256 (List.replicate 16 1)) .reset)
    (fun t => t.results == [.bytes ([0x55, 0, 0, 1] ++ List.replicate 16 1)]) = true := by decide
/-- D11. -/
theorem test_encData_range : after (exec (.encData 65536 (List.replicate 16 1)) .reset)
    (fun t => t.results == [.error .encodingError]) = true := by decide
/-- X2. -/
theorem test_decData : after (exec (.decData ([0x55, 0, 0x34, 0x12] ++ List.replicate 16 0)) .reset)
    (fun t => t.results == [.data ⟨0x1234, List.replicate 16 0⟩]) = true := by decide
/-- X4. -/
theorem test_decData_marker :
    after (exec (.decData ([0x54, 0, 0x39, 0] ++ List.replicate 16 0xAA)) .reset)
      (fun t => t.results == [.error (.decodeError .unknownOpcode)]) = true := by decide
/-- W2. -/
theorem test_acquire : after (exec .acquire (job .streaming 1 1 false)) (fun t => t.outstanding == 2)
    = true := by decide
/-- W3. -/
theorem test_acquire_at_window : after (exec .acquire (job .streaming 2 2 false))
    (fun t => t.outstanding == 2) = true := by decide
/-- W5. -/
theorem test_release : after (exec .release (job .streaming 1 1 false)) (fun t => t.outstanding == 0)
    = true := by decide
/-- W6. -/
theorem test_release_at_zero : refuses (exec .release (job .streaming 1 0 false)) .releaseUnderflow
    = true := by decide
/-- J5: 17 bytes are two blocks. -/
theorem test_jobLoad : after (exec (.jobLoad (List.replicate 17 0x11) cfg) .reset)
    (fun t => t.blockCount == 2 && t.imgLen == 17 && t.window == 2 && t.copies == 1 && t.tGrace == 7)
    = true := by decide
/-- J1. -/
theorem test_jobLoad_empty : after (exec (.jobLoad [] cfg) .reset)
    (fun t => t.results == [.error .emptyImage]) = true := by decide
/-- Section 2.7, `CHUNK(2)`. -/
theorem test_chunk : after (exec (.chunk 2) (job .streaming 0 0 false))
    (fun t => t.results == [.bytes block2]) = true := by decide
/-- Section 2.7, `CHUNK(3)`. -/
theorem test_chunk_past_end : refuses (exec (.chunk 3) (job .streaming 0 0 false)) (.chunkOutOfRange 3)
    = true := by decide
/-- P2, step 9. -/
theorem test_opNextBlock : after (exec .opNextBlock (job .streaming 2 1 false))
    (fun t => t.tx == [[0x55, 0, 2, 0] ++ block2] && t.nextIndex == 3 && t.outstanding == 2) = true := by
  decide

/-! ### Sequencer steps -/

/-- Q1. -/
theorem test_printReqAccept : after (exec (.printReqAccept img40 cfg) .reset)
    (fun t => t.phase == .awaitingStatus && t.blockCount == 3 && t.nextIndex == 0 && t.tx == [] &&
      t.timers.status) = true := by decide
/-- Q3. -/
theorem test_printReqReject : after (exec (.printReqReject img40 cfg) (job .streaming 1 1 false))
    (fun t => t.responses == [.err .jobInProgress] && t.phase == .streaming) = true := by decide
/-- P2, step 2. -/
theorem test_rxStatus :
    after (exec (.rxStatus [0x02, 0, 0x34, 0x12, 0xCD, 0xAB, 1, 0, 0, 0x80, 0xFF, 0xFF])
      (job .awaitingStatus 0 0 false))
      (fun t => t.phase == .starting && t.capValid && t.cap == ⟨0x1234, 0xABCD, 1, 0x8000, 0xFFFF⟩)
      = true := by decide
/-- P3, step 2. -/
theorem test_skipStatus :
    after (exec .skipStatus { job .awaitingStatus 0 0 false with skipStatus := true })
      (fun t => t.phase == .starting && !t.capValid && !t.timers.status) = true := by decide
/-- Q7. -/
theorem test_tStatus : after (exec .tStatus (job .awaitingStatus 0 0 false))
    (fun t => t.phase == .starting && !t.capValid) = true := by decide
/-- Q20, a stale timer event. -/
theorem test_tStatus_stale : after (exec .tStatus (job .awaitingCompletion 3 0 false))
    (fun t => t.phase == .awaitingCompletion) = true := by decide
/-- Q8. -/
theorem test_issueStart : after (exec .issueStart (job .starting 0 0 false))
    (fun t => t.tx == [frameF1] && t.ctrlPending) = true := by decide
/-- Q9. -/
theorem test_txdoneOkInStarting : after (exec .txdoneOkInStarting (job .starting 0 0 true))
    (fun t => t.phase == .streaming && !t.ctrlPending) = true := by decide
/-- P2, the row after step 7: not enabled at the window. -/
theorem test_nextBlock_at_window : after (exec .nextBlock (job .streaming 2 2 false))
    (fun t => t.tx == [] && t.nextIndex == 2) = true := by decide
/-- P2, step 9. -/
theorem test_nextBlock : after (exec .nextBlock (job .streaming 2 1 false))
    (fun t => t.tx == [[0x55, 0, 2, 0] ++ block2] && t.nextIndex == 3) = true := by decide
/-- Q11. -/
theorem test_txdoneOkInStreaming_last : after (exec .txdoneOkInStreaming (job .streaming 3 1 false))
    (fun t => t.phase == .awaitingCompletion && t.outstanding == 0 && t.timers.complete) = true := by
  decide
/-- Q12. -/
theorem test_txdoneOkInStreaming : after (exec .txdoneOkInStreaming (job .streaming 2 1 false))
    (fun t => t.phase == .streaming && t.outstanding == 0) = true := by decide
/-- P4, step 8. -/
theorem test_txdoneErr : after (exec (.txdoneErr 42) (job .streaming 2 2 false))
    (fun t => t.phase == .failed && t.outstanding == 1 && t.cause == some (.transportError 42) &&
      t.responses == [.err (.transportError 42)]) = true := by decide
/-- Q28. -/
theorem test_txdoneErr_in_failed : after (exec (.txdoneErr 42) (job .failed 2 1 false))
    (fun t => t.outstanding == 0 && t.cause == some .cancelled && t.responses == []) = true := by decide
/-- Q13. -/
theorem test_rxDiscard : after (deliver (.rx frameF5) (job .streaming 3 1 false))
    (fun t => t.phase == .streaming) = true := by decide
/-- Q14. -/
theorem test_rxCompleteMatch : after (exec (.rxCompleteMatch frameF5) (job .awaitingCompletion 3 0 false))
    (fun t => t.phase == .acknowledging && !t.timers.complete) = true := by decide
/-- Q15. -/
theorem test_rxOther : after (deliver (.rx frameF6) (job .awaitingCompletion 3 0 false))
    (fun t => t.phase == .awaitingCompletion && t.timers.complete) = true := by decide
/-- Q21 with `ACK_TOKEN = 0xA55A` (F3). -/
theorem test_issueAck :
    after (exec .issueAck { job .acknowledging 3 0 false with ackToken := 0xA55A })
      (fun t => t.tx == [[0x04, 0, 3, 0, 0x5A, 0xA5, 0, 0, 0, 0, 0, 0]] && t.ctrlPending) = true := by
  decide
/-- Q22. -/
theorem test_txdoneOkInAcknowledging :
    after (exec .txdoneOkInAcknowledging (job .acknowledging 3 0 true))
      (fun t => t.phase == .done && !t.ctrlPending && t.responses == [.ok] && t.timers.grace) = true := by
  decide
/-- Q30. -/
theorem test_txdoneOk_without_write :
    refuses (deliver .txdoneOk (job .awaitingCompletion 3 0 false)) .noWritePending = true := by decide
/-- Q19. -/
theorem test_tComplete : after (exec .tComplete (job .awaitingCompletion 3 0 false))
    (fun t => t.phase == .failed && t.cause == some .jobTimeout && t.tx == [] && !t.timers.complete)
    = true := by decide
/-- Q23. -/
theorem test_rxInDone : after (deliver (.rx frameF5) (job .done 3 0 false))
    (fun t => t.phase == .done && t.tx == [] && t.responses == []) = true := by decide
/-- Q25. -/
theorem test_tGrace : after (exec .tGrace (job .done 3 0 false))
    (fun t => t.phase == .idle && t.img == [] && !t.timers.grace) = true := by decide
/-- Q27. -/
theorem test_releaseSession_pending : after (exec .releaseSession (job .failed 2 2 false))
    (fun t => t.phase == .failed && t.outstanding == 2) = true := by decide
/-- Q29. -/
theorem test_releaseSession : after (exec .releaseSession (job .failed 2 0 false))
    (fun t => t.phase == .idle && t.cause == none) = true := by decide
/-- Q26. -/
theorem test_cancel : after (exec .cancel (job .streaming 2 2 false))
    (fun t => t.phase == .failed && t.cause == some .cancelled && t.outstanding == 2 &&
      t.responses == [.err .cancelled]) = true := by decide
/-- Q24. -/
theorem test_cancel_in_done : after (exec .cancel (job .done 3 0 false))
    (fun t => t.phase == .done && t.cause == none) = true := by decide
/-- Q31. -/
theorem test_rxClosed : after (exec .rxClosed (job .streaming 2 1 false))
    (fun t => t == job .streaming 2 1 false) = true := by decide
/-- Q17 with `BADLEN_FATAL`. -/
theorem test_rxUndecodable_fatal :
    after (deliver (.rx frameC9) { job .awaitingCompletion 3 0 false with badlenFatal := true })
      (fun t => t.phase == .failed && t.cause == some (.decodeError .badLength)) = true := by decide
/-- Q18. -/
theorem test_rxUndecodable_opcode :
    after (exec (.rxUndecodableInWait frameC6)
      { job .awaitingCompletion 3 0 false with badlenFatal := true })
      (fun t => t.phase == .awaitingCompletion && t.cause == none) = true := by decide

/-! ### Frame kinds -/

/-- Q5. -/
theorem test_status : after (exec (.status 0 0 0 0 0) (job .awaitingStatus 0 0 false))
    (fun t => t.phase == .starting && t.capValid) = true := by decide
/-- Q16, an echo. -/
theorem test_start_echo : after (exec (.start .received 3 1 0 0 0) (job .awaitingCompletion 3 0 false))
    (fun t => t.phase == .awaitingCompletion) = true := by decide
/-- F4 sent under R81: `COPIES = 7`, two blocks. -/
theorem test_start_sent :
    after (exec (.start .sent 2 7 0 0 0) { job .starting 0 0 false with blockCount := 2, copies := 7 })
      (fun t => t.tx == [[0x04, 0, 2, 0, 7, 0, 0, 0, 0, 0, 0, 0]] && t.ctrlPending) = true := by decide
/-- P2, step 15. -/
theorem test_ack_sent : after (exec (.ack .sent 3 1) (job .acknowledging 3 0 false))
    (fun t => t.tx == [frameF1] && t.ctrlPending) = true := by decide
/-- Q6. -/
theorem test_complete_in_status_wait :
    after (exec (.complete 3 1 0 0 0) (job .awaitingStatus 0 0 false))
      (fun t => t.phase == .awaitingStatus) = true := by decide
/-- P7, step 9: `w2` is not compared. -/
theorem test_complete : after (exec (.complete 3 0 0 0 0) (job .awaitingCompletion 3 0 false))
    (fun t => t.phase == .acknowledging) = true := by decide
/-- P2, step 10. -/
theorem test_midProgress : after (exec (.midProgress 29 0 0 0 0) (job .streaming 3 2 false))
    (fun t => t == job .streaming 3 2 false) = true := by decide
/-- P2, step 9, as a frame. -/
theorem test_data_sent : after (exec (.data .sent 2 block2) (job .streaming 2 1 false))
    (fun t => t.nextIndex == 3 && t.tx == [[0x55, 0, 2, 0] ++ block2]) = true := by decide
/-- C13 with R142(b). -/
theorem test_data_received :
    after (exec (.data .received 2 block2) (job .awaitingCompletion 3 0 false))
      (fun t => t.phase == .awaitingCompletion) = true := by decide

/-! ### Witnesses: the hypotheses of each obligation, met -/

/-- Bytes that no list literal should hold: the largest image (J13) and the smallest too large (J14). -/
abbrev bigImage (n : Nat) : List Byte := List.replicate n 0

/-- The default request is legal, with `WINDOW = 2`. -/
theorem cfg_legal : LegalRequest cfg 2 5 6 7 := ⟨.inl ⟨rfl, rfl⟩, rfl, rfl, rfl⟩
/-- The widest window is legal. -/
theorem widest_window_legal : LegalRequest ⟨some 65535, some 0, some 0, some 0, some 0, some true⟩
    65535 0 0 0 := ⟨.inr ⟨rfl, by decide⟩, rfl, rfl, rfl⟩
/-- The narrowest window is legal (P7). -/
theorem window_of_one_legal : LegalRequest ⟨some 1, some 0, some 0, some 0, some 7, some true⟩
    1 0 0 0 := ⟨.inr ⟨rfl, by decide⟩, rfl, rfl, rfl⟩

theorem bigImage_length (n : Nat) : (bigImage n).length = n := List.length_replicate

/-- The session of the 40-byte image holds it. -/
theorem job_holds (p : Phase) (next out : Word) (ctrl : Bool) : (job p next out ctrl).HoldsImage img40 :=
  ⟨rfl, by show 40 = _; decide, by show (3 : Word).toNat = _; decide⟩

/-- A streaming session with one write outstanding meets the invariant. -/
theorem job_streaming_inv : (job .streaming 2 1 false).Inv where
  bounds := fun _ => by constructor <;> decide
  no_session := fun h => nomatch h
  image_held := fun _ => ⟨img40, by decide, rfl⟩
  window_pos := fun _ => by decide
  cause_iff := by decide
  cause_legal := fun _ h => nomatch h
  before_data := by decide
  not_all_sent := fun _ => by decide
  all_issued := by decide
  cap_unread := fun h => nomatch h
  timers_running := by decide

theorem witness_DecodeOfEncodeIsTheFrame :
    (Instr.wf (.data .sent 0xFFFE block2) = true ∧
      encode (.data .sent 0xFFFE block2) = some ([0x55, 0, 0xFE, 0xFF] ++ block2)) ∧
    (Instr.wf (.ack .received 65535 0) = true ∧
      encode (.ack .received 65535 0) = some [0x04, 0, 0xFF, 0xFF, 0, 0, 0, 0, 0, 0, 0, 0]) :=
  ⟨⟨rfl, rfl⟩, ⟨rfl, rfl⟩⟩

theorem witness_CodecRoundTripLaws :
    block2.length = 16 ∧
    (frameF1.length = 12 ∧ ∃ op : Opcode, frameF1[0]? = some op.code) ∧
    (let b : List Byte := [0x55, 0, 0xFF, 0xFF] ++ block2;
      b.length = 20 ∧ b[0]? = some 0x55 ∧ b[1]? = some 0x00) ∧
    encControl 0x04 3 1 0 0 0 = .ok frameF1 ∧
    encData 65535 block2 = .ok ([0x55, 0, 0xFF, 0xFF] ++ block2) :=
  ⟨rfl, ⟨rfl, .start, rfl⟩, ⟨rfl, rfl, rfl⟩, rfl, rfl⟩

/-- E6 and, for the second clause, E10, E11, E12. -/
theorem witness_EncCtrlReturnsTheFrameOrEncodingError :
    let legal := fun (op : Byte) (w1 w2 w3 w4 w5 : Nat) =>
      (op = 0x02 ∨ op = 0x04 ∨ op = 0x06 ∨ op = 0x07) ∧
        w1 ≤ 65535 ∧ w2 ≤ 65535 ∧ w3 ≤ 65535 ∧ w4 ≤ 65535 ∧ w5 ≤ 65535
    legal 0x04 65535 65535 65535 65535 65535 ∧ legal 0x07 0 0 0 0 0 ∧
      ¬legal 0x04 65536 1 0 0 0 ∧ ¬legal 0x04 1 1 0 0 65536 ∧ ¬legal 0x05 0 0 0 0 0 := by decide

theorem witness_DecCtrlReturnsTheWordsOrDecodeError :
    frameC9.length ≠ 12 ∧
    (frameC6 = [0x03, 0, 0, 0, 0, 0, 0, 0, 0, 0, 0, 0] ∧
      (0x03 : Byte) ≠ 0x02 ∧ (0x03 : Byte) ≠ 0x04 ∧ (0x03 : Byte) ≠ 0x06 ∧ (0x03 : Byte) ≠ 0x07) ∧
    (frameF6 = [0x06, 0, 4, 0, 1, 0, 0, 0, 0, 0, 0, 0] ∧ (0x06 : Byte) = Opcode.complete.code) := by
  decide

/-- D7; then D9, D10, D11. -/
theorem witness_EncDataReturnsTheFrameOrEncodingError :
    let legal := fun (index : Nat) (payload : List Byte) => payload.length = 16 ∧ index ≤ 65535
    legal 65535 block2 ∧ ¬legal 0 (bigImage 15) ∧ ¬legal 0 (bigImage 17) ∧ ¬legal 65536 block2 := by
  decide

/-- X5; X3; X1. -/
theorem witness_DecDataReturnsTheBlockOrDecodeError :
    (bigImage 19).length ≠ 20 ∧ (bigImage 16).length = 16 ∧
    ¬((0x55 : Byte) = 0x55 ∧ (0x01 : Byte) = 0x00) ∧ ((0x55 : Byte) = 0x55 ∧ (0x00 : Byte) = 0x00) := by
  decide

theorem witness_StepRunsTheDecodedFrame :
    let s := { job .awaitingCompletion 3 0 false with inbox := [.rx frameF5, .tComplete] }
    s.inbox = .rx frameF5 :: [.tComplete] ∧ decode frameF5 = .ok (.complete 3 1 0 0 0) := ⟨rfl, rfl⟩

/-- Requests at the two ends of the accepted lengths, an empty one, one too long, one in a session. -/
theorem witness_StepRunsTheRowOfEachEvent :
    (State.reset.phase = .idle ∧ 1 ≤ (bigImage 1).length ∧ (bigImage 1).length ≤ 1048560) ∧
    (1 ≤ (bigImage 1048560).length ∧ (bigImage 1048560).length ≤ 1048560) ∧
    ((job .done 3 0 false).phase ≠ .idle ∧ (bigImage 0).length = 0 ∧
      1048560 < (bigImage 1048561).length) ∧
    (∀ e : Event, ({ State.reset with inbox := [e] } : State).inbox = e :: []) ∧
    (job .starting 0 0 true).phase = .starting ∧ (job .streaming 1 1 false).phase = .streaming ∧
    (job .acknowledging 3 0 true).phase = .acknowledging := by
  simp only [bigImage_length]
  exact ⟨by decide, by decide, by decide, fun _ => trivial, rfl, rfl, rfl⟩

theorem witness_NotificationRunsTheRowOfTheTable :
    (job .awaitingStatus 0 0 false).phase = .awaitingStatus ∧ isStatus (decControl frameF7) = true ∧
    (isStatus (decControl frameF5) = false ∧ undecodable (decControl frameF5) = false) ∧
    (undecodable (decControl frameC6) = true ∧ undecodable (decControl frameC9) = true) ∧
    ((job .awaitingCompletion 3 0 false).phase = .awaitingCompletion ∧
      isCompleteFor (decControl frameF5) (job .awaitingCompletion 3 0 false).blockCount = true ∧
      isCompleteFor (decControl frameF6) (job .awaitingCompletion 3 0 false).blockCount = false ∧
      undecodable (decControl frameF6) = false) ∧
    (job .done 3 0 false).phase = .done ∧ State.reset.phase = .idle ∧
    (job .failed 3 0 false).phase = .failed := by decide

/-- W2, W3, W8. -/
theorem witness_AcquireTakesASlotBelowTheWindow :
    ((job .streaming 1 1 false).phase ≠ .idle ∧
      (job .streaming 1 1 false).outstanding < (job .streaming 1 1 false).window) ∧
    ¬(job .streaming 2 2 false).outstanding < (job .streaming 2 2 false).window ∧
    (let s := { job .streaming 65534 65534 false with window := 65535 };
      s.phase ≠ .idle ∧ s.outstanding < s.window) := by decide

/-- W5, W6. -/
theorem witness_ReleaseReturnsASlotOrIsRefusedAtZero :
    0 < (job .streaming 1 1 false).outstanding ∧ (job .streaming 1 0 false).outstanding = 0 := by decide

theorem witness_OutstandingNeverExceedsTheWindow :
    (job .streaming 2 1 false).Inv ∧
    let s := { job .streaming 2 1 false with inbox := [.spontaneous .nextBlock] }
    (s.Busy → s.outstanding ≤ s.window) ∧
      after (step s) (fun t => t.phase == .streaming && t.outstanding == 2) = true :=
  ⟨job_streaming_inv, by decide⟩

theorem witness_JobLoadInitialisesTheSessionOrRaises :
    State.reset.phase = .idle ∧ (bigImage 0).length = 0 ∧ 1048560 < (bigImage 1048561).length ∧
    (1 ≤ (bigImage 1).length ∧ (bigImage 1).length ≤ 1048560) ∧
    (1 ≤ (bigImage 1048560).length ∧ (bigImage 1048560).length ≤ 1048560) ∧
    LegalRequest cfg 2 5 6 7 ∧ (job .streaming 0 0 false).phase ≠ .idle := by
  simp only [bigImage_length]
  exact ⟨rfl, trivial, by decide, by decide, by decide, cfg_legal, by decide⟩

/-- J5. -/
theorem witness_BlockCountIsTheCeilingOfLengthOverSixteen :
    State.reset.phase = .idle ∧ after (exec (.printReqAccept (bigImage 17) cfg) .reset)
      (fun t => t.phase == .awaitingStatus && t.blockCount == 2) = true := by decide

/-- The last block of the 40-byte image, and the index past it. -/
theorem witness_ChunkReturnsTheZeroPaddedSlice :
    (job .streaming 0 0 false).phase ≠ .idle ∧ (job .streaming 0 0 false).HoldsImage img40 ∧
    2 < (job .streaming 0 0 false).blockCount.toNat ∧ min 16 (img40.length - 16 * 2) < 16 ∧
    (job .streaming 0 0 false).blockCount.toNat ≤ 3 :=
  ⟨by decide, job_holds _ _ _ _, by decide, by decide, by decide⟩

theorem witness_ChunksConcatenateToThePaddedImage :
    (job .streaming 0 0 false).phase ≠ .idle ∧ (job .streaming 0 0 false).HoldsImage img40 :=
  ⟨by decide, job_holds _ _ _ _⟩

/-- The last block, taking the last slot. -/
theorem witness_NextBlockSendsTheBlockAndAdvances :
    let s := job .streaming 2 1 false
    s.HoldsImage img40 ∧ s.phase = .streaming ∧ s.nextIndex < s.blockCount ∧ s.outstanding < s.window :=
  ⟨job_holds _ _ _ _, rfl, by decide, by decide⟩

/-- The state of `job_streaming_inv` with an input: the invariant does not read the inbox. -/
theorem inv_of_inbox {s : State} (r : List Event) (h : s.Inv) : State.Inv { s with inbox := r } where
  bounds := fun hb =>
    have b := h.bounds hb
    ⟨b.outstanding_le_window, b.index_le_count, b.count_pos, b.count_le, b.count_eq,
      b.outstanding_le_index, b.outstanding_where, b.ctrl_where, b.not_both⟩
  no_session := fun hi =>
    have n := h.no_session hi
    ⟨n.outstanding_zero, n.ctrl_clear, n.cap_clear, n.no_image⟩
  image_held := h.image_held
  window_pos := h.window_pos
  cause_iff := h.cause_iff
  cause_legal := h.cause_legal
  before_data := h.before_data
  not_all_sent := h.not_all_sent
  all_issued := h.all_issued
  cap_unread := h.cap_unread
  timers_running := h.timers_running

/-- One state for both cases: a step that sends a data frame and one that does not. -/
theorem witness_IndexAdvancesOnceForEachDataFrame :
    let s := { job .streaming 2 1 false with inbox := [.spontaneous .nextBlock] }
    let s' := { job .streaming 2 1 false with inbox := [.txdoneOk] }
    (s.Inv ∧ s.Busy ∧ after (step s) (fun t => t.phase == .streaming && t.nextIndex == 3) = true) ∧
    (s'.Inv ∧ s'.Busy ∧ after (step s') (fun t => t.phase == .streaming && t.nextIndex == 2) = true) :=
  ⟨⟨inv_of_inbox _ job_streaming_inv, by decide, by decide⟩,
    ⟨inv_of_inbox _ job_streaming_inv, by decide, by decide⟩⟩

theorem witness_AcceptedRequestCreatesTheSession :
    State.reset.phase = .idle ∧ (1 ≤ (bigImage 1).length ∧ (bigImage 1).length ≤ 1048560) ∧
    (1 ≤ (bigImage 1048560).length ∧ (bigImage 1048560).length ≤ 1048560) ∧
    LegalRequest cfg 2 5 6 7 := by
  simp only [bigImage_length]
  exact ⟨rfl, by decide, by decide, cfg_legal⟩

theorem witness_RejectedRequestOnlyAnswersItsCause :
    State.reset.phase = .idle ∧ (bigImage 0).length = 0 ∧ 1048560 < (bigImage 1048561).length ∧
    (job .done 3 0 false).phase ≠ .idle := by
  simp only [bigImage_length]
  decide

/-- The two windows next to the legal range, and each duration missing. -/
theorem witness_IllegalConfigurationIsRefused :
    State.reset.phase = .idle ∧ (1 ≤ (bigImage 1).length ∧ (bigImage 1).length ≤ 1048560) ∧
    (∃ v : Int, (⟨some 0, some 1, some 1, some 1, none, none⟩ : JobConfig).flowControlWindow = some v ∧
      (v < 1 ∨ 65535 < v)) ∧
    (∃ v : Int, (⟨some 65536, some 1, some 1, some 1, none, none⟩ : JobConfig).flowControlWindow = some v ∧
      (v < 1 ∨ 65535 < v)) ∧
    (∃ w, AsksWindow ⟨some 65535, none, some 1, some 1, none, none⟩ w) ∧
    (∃ w, AsksWindow ⟨some 1, some 1, none, some 1, none, none⟩ w) ∧
    (∃ w, AsksWindow ⟨none, some 1, some 1, none, none, none⟩ w) :=
  ⟨rfl, by decide, ⟨0, rfl, by decide⟩, ⟨65536, rfl, by decide⟩, ⟨65535, .inr ⟨rfl, by decide⟩⟩,
    ⟨1, .inr ⟨rfl, by decide⟩⟩, ⟨2, .inl ⟨rfl, rfl⟩⟩⟩

theorem witness_StatusNotificationEndsTheStatusWait :
    (job .awaitingStatus 0 0 false).phase = .awaitingStatus ∧
    decControl frameF7 = .ok ⟨.status, 0, 0, 0, 0, 0⟩ := ⟨rfl, rfl⟩

theorem witness_StatusWaitEndsWithoutAStatusFrame :
    let s := { job .awaitingStatus 0 0 false with skipStatus := true }
    s.phase = .awaitingStatus ∧ s.skipStatus = true ∧ isStatus (decControl frameF7) = true :=
  ⟨rfl, rfl, rfl⟩

theorem witness_IssueStartSendsTheStartFrameOnce :
    (job .starting 0 0 false).phase = .starting ∧ (job .starting 0 0 false).ctrlPending = false :=
  ⟨rfl, rfl⟩

theorem witness_StartConfirmationOpensStreaming :
    (job .starting 0 0 true).phase = .starting ∧ (job .starting 0 0 true).ctrlPending = true := ⟨rfl, rfl⟩

/-- Q12 and Q11, and the two states next to Q11. -/
theorem witness_DataConfirmationReturnsASlotAndMayFinishStreaming :
    let streaming := fun s : State => s.phase = .streaming ∧ 0 < s.outstanding
    let last := fun s : State => s.nextIndex = s.blockCount ∧ s.outstanding = 1
    (streaming (job .streaming 2 1 false) ∧ ¬last (job .streaming 2 1 false)) ∧
    (streaming (job .streaming 3 2 false) ∧ ¬last (job .streaming 3 2 false)) ∧
    (streaming (job .streaming 3 1 false) ∧ last (job .streaming 3 1 false)) := by decide

/-- Q10, P4, P6 and Q28. -/
theorem witness_WriteFailureRetiresThenFails :
    ((job .starting 0 0 true).phase = .starting ∧ (job .starting 0 0 true).ctrlPending = true) ∧
    ((job .acknowledging 3 0 true).phase = .acknowledging ∧
      (job .acknowledging 3 0 true).ctrlPending = true) ∧
    ((job .streaming 2 2 false).phase = .streaming ∧ (job .streaming 2 2 false).ctrlPending = false ∧
      0 < (job .streaming 2 2 false).outstanding) ∧
    ((job .failed 3 0 true).phase = .failed ∧ (job .failed 3 0 true).ctrlPending = true) ∧
    ((job .failed 2 1 false).ctrlPending = false ∧ 0 < (job .failed 2 1 false).outstanding) := by decide

theorem witness_StepsWithoutAMeaningAreRefused :
    State.reset.phase = .idle ∧ (job .awaitingStatus 0 0 false).phase = .awaitingStatus ∧
    (job .awaitingCompletion 3 0 false).phase = .awaitingCompletion ∧ (job .done 3 0 false).phase = .done ∧
    ((job .starting 0 0 false).phase = .starting ∧ (job .starting 0 0 false).ctrlPending = false) ∧
    (job .acknowledging 3 0 false).ctrlPending = false ∧ (job .acknowledging 3 0 false).outstanding = 0 ∧
    ((job .streaming 1 0 false).phase = .streaming ∧ (job .streaming 1 0 false).outstanding = 0) ∧
    (job .streaming 0 0 false).imgLen < 25 + 16 ∧ ¬(job .streaming 0 0 false).imgLen < 24 + 16 := by
  decide

theorem witness_NotificationOutsideTheWaitsIsDiscarded :
    (job .starting 0 0 true).phase = .starting ∧ (job .streaming 0 0 false).phase = .streaming ∧
    (job .acknowledging 3 0 false).phase = .acknowledging ∧
    ((job .awaitingStatus 0 0 false).phase = .awaitingStatus ∧
      ∃ f, decControl frameF5 = .ok f ∧ f.op ≠ .status) :=
  ⟨rfl, rfl, rfl, rfl, ⟨.complete, 3, 1, 0, 0, 0⟩, rfl, by decide⟩

theorem witness_MatchingCompleteStartsTheAcknowledgement :
    (job .awaitingCompletion 3 0 false).phase = .awaitingCompletion ∧
    decControl frameF5 = .ok ⟨.complete, (job .awaitingCompletion 3 0 false).blockCount, 1, 0, 0, 0⟩ :=
  ⟨rfl, rfl⟩

theorem witness_IssueAckSendsTheAckFrameOnce :
    (job .acknowledging 3 0 false).phase = .acknowledging ∧
    (job .acknowledging 3 0 false).ctrlPending = false := ⟨rfl, rfl⟩

theorem witness_AckConfirmationCompletesTheJob :
    (job .acknowledging 3 0 true).phase = .acknowledging ∧
    (job .acknowledging 3 0 true).ctrlPending = true := ⟨rfl, rfl⟩

/-- Q15, and the nearest frame of another opcode (Q16). -/
theorem witness_OtherFrameLeavesTheCompletionWait :
    let s := job .awaitingCompletion 3 0 false
    s.phase = .awaitingCompletion ∧
    (decControl frameF6 = .ok ⟨.complete, 4, 1, 0, 0, 0⟩ ∧
      ¬(Opcode.complete = .complete ∧ (4 : Word) = s.blockCount)) ∧
    (decControl frameF1 = .ok ⟨.start, 3, 1, 0, 0, 0⟩ ∧
      ¬(Opcode.start = .complete ∧ (3 : Word) = s.blockCount)) :=
  ⟨rfl, ⟨rfl, by decide⟩, ⟨rfl, by decide⟩⟩

theorem witness_CompletionTimeoutFailsTheJob :
    (job .awaitingCompletion 3 0 false).phase = .awaitingCompletion := rfl

theorem witness_DoneAbsorbsEveryNotification :
    let s := { job .done 3 0 false with inbox := [.rx frameF5, .rx frameF5] }
    s.phase = .done ∧ s.inbox = .rx frameF5 :: [.rx frameF5] := ⟨rfl, rfl⟩

theorem witness_GraceExpiryReleasesTheSession :
    (job .done 3 0 false).phase = .done ∧ State.reset.phase = .idle := ⟨rfl, rfl⟩

theorem witness_FailedAbsorbsRetiresAndReleases :
    (job .failed 3 0 true).phase = .failed ∧ (job .failed 3 0 true).ctrlPending = true ∧
    ((job .failed 2 1 false).ctrlPending = false ∧ 0 < (job .failed 2 1 false).outstanding) ∧
    ((job .failed 2 0 false).outstanding = 0 ∧ (job .failed 2 0 false).ctrlPending = false) ∧
    ¬((job .failed 2 1 false).outstanding = 0 ∧ (job .failed 2 1 false).ctrlPending = false) := by decide

theorem witness_CancelFailsTheJobInTheFiveJobStates :
    (job .awaitingStatus 0 0 false).phase = .awaitingStatus ∧ (job .starting 0 0 true).phase = .starting ∧
    (job .streaming 2 2 false).phase = .streaming ∧
    (job .awaitingCompletion 3 0 false).phase = .awaitingCompletion ∧
    (job .acknowledging 3 0 true).phase = .acknowledging ∧ State.reset.phase = .idle ∧
    (job .done 3 0 false).phase = .done ∧ (job .failed 2 2 false).phase = .failed := by decide

theorem witness_StreamClosedChangesNoRegister :
    ({ job .streaming 2 1 false with inbox := [.rxClosed] } : State).inbox = .rxClosed :: [] := rfl

/-- Q18, Q17 and Q17 with `BADLEN_FATAL`. -/
theorem witness_UndecodableNotificationInAWait :
    (job .awaitingStatus 0 0 false).phase = .awaitingStatus ∧
    (job .awaitingCompletion 3 0 false).phase = .awaitingCompletion ∧
    decControl frameC6 = .error .unknownOpcode ∧
    (decControl frameC9 = .error .badLength ∧
      ({ job .awaitingCompletion 3 0 false with badlenFatal := false } : State).badlenFatal = false) ∧
    ({ job .awaitingCompletion 3 0 false with badlenFatal := true } : State).badlenFatal = true :=
  ⟨rfl, rfl, rfl, ⟨rfl, rfl⟩, rfl⟩

theorem witness_StepOutsideItsGuardChangesNothing :
    State.reset.phase ≠ .awaitingStatus ∧ State.reset.phase ≠ .awaitingCompletion ∧
    State.reset.phase ≠ .done ∧
    ¬((job .awaitingStatus 0 0 false).phase = .awaitingStatus ∧
      (job .awaitingStatus 0 0 false).skipStatus = true) ∧
    ¬((job .starting 0 0 true).phase = .starting ∧ (job .starting 0 0 true).ctrlPending = false) ∧
    ¬((job .streaming 3 1 false).nextIndex < (job .streaming 3 1 false).blockCount) ∧
    ¬((job .streaming 2 2 false).outstanding < (job .streaming 2 2 false).window) ∧
    ¬((job .failed 2 2 false).phase = .failed ∧ (job .failed 2 2 false).outstanding = 0 ∧
      (job .failed 2 2 false).ctrlPending = false) ∧
    isStatus (decControl frameF5) = false ∧
    isCompleteFor (decControl frameF6) (job .awaitingCompletion 3 0 false).blockCount = false := by decide

theorem witness_StatusFrameIsTakenInTheStatusWaitOnly :
    (job .awaitingStatus 0 0 false).phase = .awaitingStatus ∧
    (job .starting 0 0 false).phase ≠ .awaitingStatus := by decide

/-- The frame that is due, and one that differs from it in one word only. -/
theorem witness_StartFrameSentOrEchoed :
    let s := job .starting 0 0 false
    (s.phase = .starting ∧ s.ctrlPending = false) ∧
    ¬(s.phase = .starting ∧ s.ctrlPending = false ∧ (3 : Word) = s.blockCount ∧ (1 : Word) = s.copies ∧
      (0 : Word) = 0 ∧ (0 : Word) = 0 ∧ (1 : Word) = 0) := by decide

theorem witness_AckFrameSentOrEchoed :
    let s := job .acknowledging 3 0 false
    (s.phase = .acknowledging ∧ s.ctrlPending = false) ∧
    ¬(s.phase = .acknowledging ∧ s.ctrlPending = false ∧ (3 : Word) = s.blockCount ∧
      (2 : Word) = s.ackToken) := by decide

theorem witness_CompleteAndMidProgressFrames :
    let s := job .awaitingCompletion 3 0 false
    (s.phase = .awaitingCompletion ∧ (3 : Word) = s.blockCount) ∧
    ¬(s.phase = .awaitingCompletion ∧ (4 : Word) = s.blockCount) := by decide

theorem witness_DataFrameSentOrReceived :
    (let s := job .awaitingStatus 0 0 false;
      ¬((s.phase = .awaitingStatus ∨ s.phase = .awaitingCompletion) ∧ s.badlenFatal = true)) ∧
    (let s := { job .awaitingCompletion 3 0 false with badlenFatal := true };
      (s.phase = .awaitingStatus ∨ s.phase = .awaitingCompletion) ∧ s.badlenFatal = true) ∧
    (let s := job .streaming 2 1 false;
      s.HoldsImage img40 ∧ s.phase = .streaming ∧ s.nextIndex < s.blockCount ∧
        s.outstanding < s.window ∧ block2 = chunkOf img40 s.nextIndex.toNat ∧
      ¬(s.phase = .streaming ∧ s.nextIndex < s.blockCount ∧ s.outstanding < s.window ∧
        (1 : Word) = s.nextIndex ∧ block2 = chunkOf img40 s.nextIndex.toNat)) :=
  ⟨by decide, by decide, job_holds _ _ _ _, rfl, by decide, by decide, by decide, by decide⟩

/-- A step of a running session from a state that meets the invariant. -/
theorem witness_EveryStepKeepsTheInvariant :
    let s := { job .streaming 2 1 false with inbox := [.txdoneErr 42] }
    s.Inv ∧ after (step s) (fun t => t.phase == .failed) = true :=
  ⟨inv_of_inbox _ job_streaming_inv, by decide⟩

theorem witness_NewSessionHasSentNothing :
    let s := { State.reset with inbox := [.printReq img40 cfg], tx := [frameF1] }
    s.phase = .idle ∧ s.inbox = .printReq img40 cfg :: [] ∧
      after (step s) (fun t => t.phase == .awaitingStatus) = true := ⟨rfl, rfl, by decide⟩

/-- P2 before step 9: the Start frame and two data frames are out. -/
theorem witness_SessionSendsTheFramesOfItsJobInOrder :
    let s := { job .streaming 2 1 false with
      inbox := [.spontaneous .nextBlock]
      tx := [frameF7] ++ [frameF1,
        [0x55, 0, 0, 0, 0xA0, 0xA1, 0xA2, 0xA3, 0xA4, 0xA5, 0xA6, 0xA7, 0xA8, 0xA9, 0xAA, 0xAB, 0xAC, 0xAD,
          0xAE, 0xAF],
        [0x55, 0, 1, 0, 0xB0, 0xB1, 0xB2, 0xB3, 0xB4, 0xB5, 0xB6, 0xB7, 0xB8, 0xB9, 0xBA, 0xBB, 0xBC, 0xBD,
          0xBE, 0xBF]] }
    s.Inv ∧ s.Busy ∧ s.FramesSent [frameF7] img40 ∧
      after (step s) (fun t => t.phase == .streaming) = true := by
  refine ⟨?_, by decide, ⟨rfl, by decide, ?_⟩, by decide⟩
  · have h := job_streaming_inv
    constructor
    · intro hb
      have b := h.bounds hb
      exact ⟨b.outstanding_le_window, b.index_le_count, b.count_pos, b.count_le, b.count_eq,
        b.outstanding_le_index, b.outstanding_where, b.ctrl_where, b.not_both⟩
    · intro hi
      cases hi
    · exact h.image_held
    · exact h.window_pos
    · exact h.cause_iff
    · exact h.cause_legal
    · exact h.before_data
    · exact h.not_all_sent
    · exact h.all_issued
    · exact h.cap_unread
    · exact h.timers_running
  · rw [if_neg (by decide)]
    decide

theorem witness_StepOutputsAtMostOneFrameAndOneAnswer :
    after (step { job .acknowledging 3 0 true with inbox := [.txdoneOk] }) (fun t => t.responses == [.ok])
      = true ∧
    after (step { job .acknowledging 3 0 false with inbox := [.spontaneous .issueAck] })
      (fun t => t.tx == [frameF1]) = true := by decide

/-- The strongest thing a notification does, and the one that fails the job. -/
theorem witness_DeviceCannotWriteConfigurationOrJob :
    let s := { job .awaitingCompletion 3 0 false with inbox := [.rx frameF5, .tComplete] }
    s.inbox = .rx frameF5 :: [.tComplete] ∧
      after (step s) (fun t => t.phase == .acknowledging) = true := ⟨rfl, by decide⟩

theorem witness_NoInstructionWritesTheParameters :
    after (exec .issueAck (job .acknowledging 3 0 false)) (fun t => t.tx == [frameF1]) = true := by decide

/-- Each of the three outcomes. -/
theorem witness_ImageBytesChangeOnlyWithTheSession :
    Memory.wf (job .streaming 2 1 false).img = true ∧
    after (exec .nextBlock (job .streaming 2 1 false)) (fun t => t.imgLen == 40) = true ∧
    after (exec (.printReqAccept (bigImage 17) cfg) .reset) (fun t => t.imgLen == 17) = true ∧
    after (exec .tGrace (job .done 3 0 false)) (fun t => t.imgLen == 0) = true := by decide

/-- A step that stays in `Failed` and the one that leaves it. -/
theorem witness_FailedIsLeftOnlyByRelease :
    (let s := { job .failed 2 1 false with inbox := [.txdoneOk] };
      s.phase = .failed ∧ after (step s) (fun t => t.phase == .failed) = true) ∧
    (let s := { job .failed 2 0 false with inbox := [.spontaneous .releaseSession] };
      s.phase = .failed ∧ after (step s) (fun t => t.phase == .idle) = true) := by decide

theorem witness_DoneIsLeftOnlyByTheGraceTimer :
    (let s := { job .done 3 0 false with inbox := [.cancel] };
      s.phase = .done ∧ after (step s) (fun t => t.phase == .done) = true) ∧
    (let s := { job .done 3 0 false with inbox := [.tGrace] };
      s.phase = .done ∧ after (step s) (fun t => t.phase == .idle) = true) := by decide

theorem witness_TerminalStatesAreEnteredWithTheirAnswer :
    (let s := { job .awaitingCompletion 3 0 false with inbox := [.tComplete] };
      s.phase ≠ .failed ∧ after (step s) (fun t => t.phase == .failed) = true) ∧
    (let s := { job .acknowledging 3 0 true with inbox := [.txdoneOk] };
      s.phase ≠ .done ∧ after (step s) (fun t => t.phase == .done) = true) := by decide

/-- P5 and P1 as the two ends: one byte and the default request. -/
theorem witness_UndisturbedJobRunsToCompletion :
    let s := { State.reset with
      inbox := jobSchedule (bigImage 1) cfg 1 (controlBytes .complete 1 1 0 0 0) ++ [Event.cancel] }
    s.phase = .idle ∧ 1 ≤ (bigImage 1).length ∧ (bigImage 1).length ≤ 1048560 ∧
      LegalRequest cfg 2 5 6 7 ∧ (1 : Word).toNat = ((bigImage 1).length + 15) / 16 ∧
      s.inbox = jobSchedule (bigImage 1) cfg (1 : Word).toNat (controlBytes .complete 1 1 0 0 0)
        ++ [Event.cancel] :=
  ⟨rfl, by decide, by decide, cfg_legal, by decide, rfl⟩

end Sys2Proof.Tests
end

section
/-! PROOF. The invariant of the block, said once for each value of `STATE`. Proofs about steps take the
facts of the state they start in from these lemmas, and owe those of the state they end in. -/

namespace Sys2Proof.Machine

/-- What a session holds from `JOB_LOAD` to its release: the image, its block count and a window
(R21, R29, R111). -/
def State.JobHeld (s : State) : Prop :=
  (∃ image : List Byte, image.length = s.imgLen ∧ s.img = Memory.ofBytes image) ∧
    1 ≤ s.window ∧ 1 ≤ s.blockCount ∧ s.blockCount.toNat = ceilDiv s.imgLen 16

/-- The bounds of R35 on the two counters. -/
def State.CountersBounded (s : State) : Prop :=
  s.outstanding ≤ s.window ∧ s.nextIndex ≤ s.blockCount ∧ s.outstanding ≤ s.nextIndex

variable {s : State}

/-! ### What the invariant gives while a session is live -/

theorem State.Inv.job (h : s.Inv) (hbusy : s.Busy) : s.JobHeld :=
  ⟨h.image_held hbusy, h.window_pos hbusy, (h.bounds hbusy).count_pos, (h.bounds hbusy).count_eq⟩

theorem State.Inv.counters (h : s.Inv) (hbusy : s.Busy) : s.CountersBounded :=
  ⟨(h.bounds hbusy).outstanding_le_window, (h.bounds hbusy).index_le_count,
    (h.bounds hbusy).outstanding_le_index⟩

theorem State.Inv.cause_none (h : s.Inv) (hfailed : s.phase ≠ .failed) : s.cause = none := by
  have := mt h.cause_iff.1 hfailed
  simpa using this

/-- Data writes are pending in `Streaming` and `Failed` only (R35). -/
theorem State.Inv.outstanding_zero (h : s.Inv) (hstreaming : s.phase ≠ .streaming)
    (hfailed : s.phase ≠ .failed) : s.outstanding = 0 := by
  by_cases hidle : s.phase = .idle
  · exact (h.no_session hidle).outstanding_zero
  · have : ¬ 0 < s.outstanding := fun hpos =>
      ((h.bounds hidle).outstanding_where hpos).elim hstreaming hfailed
    bv_omega

/-- A control write is pending in `Starting`, `Acknowledging` and `Failed` only (R35). -/
theorem State.Inv.ctrl_clear (h : s.Inv) (hstarting : s.phase ≠ .starting)
    (hack : s.phase ≠ .acknowledging) (hfailed : s.phase ≠ .failed) : s.ctrlPending = false := by
  by_cases hidle : s.phase = .idle
  · exact (h.no_session hidle).ctrl_clear
  · rw [← Bool.not_eq_true]
    intro hc
    rcases (h.bounds hidle).ctrl_where hc with hp | hp | hp
    · exact hstarting hp
    · exact hack hp
    · exact hfailed hp

/-! ### Counters at their ends -/

theorem State.CountersBounded.of_index_zero (hout : s.outstanding = 0) (hindex : s.nextIndex = 0) :
    s.CountersBounded := by
  refine ⟨?_, ?_, ?_⟩ <;> bv_omega

theorem State.CountersBounded.of_allIssued (hout : s.outstanding = 0) (hindex : s.AllIssued) :
    s.CountersBounded := by
  refine ⟨?_, ?_, ?_⟩ <;> bv_omega

/-- R35 from its parts. -/
theorem State.JobHeld.bounds (hjob : s.JobHeld) (hcounters : s.CountersBounded)
    (hout : 0 < s.outstanding → s.phase = .streaming ∨ s.phase = .failed)
    (hctrl : s.ctrlPending = true →
      s.phase = .starting ∨ s.phase = .acknowledging ∨ s.phase = .failed)
    (hboth : ¬(s.ctrlPending = true ∧ 0 < s.outstanding)) : s.SessionBounds := by
  obtain ⟨-, -, hpos, hcount⟩ := hjob
  obtain ⟨hwindow, hindex, hle⟩ := hcounters
  exact ⟨hwindow, hindex, hpos, by omega, hcount, hle, hout, hctrl, hboth⟩

/-! ### The invariant in each state of the sequencer -/

theorem inv_idle_iff (hp : s.phase = .idle) :
    s.Inv ↔ s.NoSession ∧ s.cause = none ∧ s.timers = .off := by
  constructor
  · intro h
    exact ⟨h.no_session hp, h.cause_none (by simp [hp]), by simpa [hp, Timers.off] using h.timers_running⟩
  · rintro ⟨hno, hcause, htimers⟩
    constructor <;> simp_all [Timers.off]

theorem inv_awaitingStatus_iff (hp : s.phase = .awaitingStatus) :
    s.Inv ↔ s.JobHeld ∧ s.cause = none ∧ s.outstanding = 0 ∧ s.nextIndex = 0 ∧
      s.ctrlPending = false ∧ s.capValid = false ∧ s.timers = ⟨true, false, false⟩ := by
  constructor
  · intro h
    exact ⟨h.job (by simp [hp]), h.cause_none (by simp [hp]),
      h.outstanding_zero (by simp [hp]) (by simp [hp]), h.before_data (.inl hp),
      h.ctrl_clear (by simp [hp]) (by simp [hp]) (by simp [hp]), h.cap_unread hp,
      by simpa [hp] using h.timers_running⟩
  · rintro ⟨hjob, hcause, hout, hindex, hctrl, hcap, htimers⟩
    have hbounds := hjob.bounds (.of_index_zero hout hindex) (by simp [hout]) (by simp [hctrl])
      (by simp [hctrl])
    constructor <;> simp_all [State.JobHeld]

theorem inv_starting_iff (hp : s.phase = .starting) :
    s.Inv ↔ s.JobHeld ∧ s.cause = none ∧ s.outstanding = 0 ∧ s.nextIndex = 0 ∧ s.timers = .off := by
  constructor
  · intro h
    exact ⟨h.job (by simp [hp]), h.cause_none (by simp [hp]),
      h.outstanding_zero (by simp [hp]) (by simp [hp]), h.before_data (.inr hp),
      by simpa [hp, Timers.off] using h.timers_running⟩
  · rintro ⟨hjob, hcause, hout, hindex, htimers⟩
    have hbounds := hjob.bounds (.of_index_zero hout hindex) (by simp [hout]) (by simp [hp])
      (by simp [hout])
    constructor <;> simp_all [State.JobHeld, Timers.off]

theorem inv_streaming_iff (hp : s.phase = .streaming) :
    s.Inv ↔ s.JobHeld ∧ s.cause = none ∧ s.CountersBounded ∧ s.ctrlPending = false ∧
      ¬ s.AllSent ∧ s.timers = .off := by
  constructor
  · intro h
    exact ⟨h.job (by simp [hp]), h.cause_none (by simp [hp]), h.counters (by simp [hp]),
      h.ctrl_clear (by simp [hp]) (by simp [hp]) (by simp [hp]), h.not_all_sent hp,
      by simpa [hp, Timers.off] using h.timers_running⟩
  · rintro ⟨hjob, hcause, hcounters, hctrl, hrest, htimers⟩
    have hbounds := hjob.bounds hcounters (by simp [hp]) (by simp [hctrl]) (by simp [hctrl])
    constructor <;> simp_all [State.JobHeld, Timers.off, -not_and]

theorem inv_awaitingCompletion_iff (hp : s.phase = .awaitingCompletion) :
    s.Inv ↔ s.JobHeld ∧ s.cause = none ∧ s.outstanding = 0 ∧ s.AllIssued ∧
      s.ctrlPending = false ∧ s.timers = ⟨false, true, false⟩ := by
  constructor
  · intro h
    exact ⟨h.job (by simp [hp]), h.cause_none (by simp [hp]),
      h.outstanding_zero (by simp [hp]) (by simp [hp]), h.all_issued (.inl hp),
      h.ctrl_clear (by simp [hp]) (by simp [hp]) (by simp [hp]), by simpa [hp] using h.timers_running⟩
  · rintro ⟨hjob, hcause, hout, hindex, hctrl, htimers⟩
    have hbounds := hjob.bounds (.of_allIssued hout hindex) (by simp [hout]) (by simp [hctrl])
      (by simp [hctrl])
    constructor <;> simp_all [State.JobHeld, State.AllIssued]

theorem inv_acknowledging_iff (hp : s.phase = .acknowledging) :
    s.Inv ↔ s.JobHeld ∧ s.cause = none ∧ s.outstanding = 0 ∧ s.AllIssued ∧ s.timers = .off := by
  constructor
  · intro h
    exact ⟨h.job (by simp [hp]), h.cause_none (by simp [hp]),
      h.outstanding_zero (by simp [hp]) (by simp [hp]), h.all_issued (.inr (.inl hp)),
      by simpa [hp, Timers.off] using h.timers_running⟩
  · rintro ⟨hjob, hcause, hout, hindex, htimers⟩
    have hbounds := hjob.bounds (.of_allIssued hout hindex) (by simp [hout]) (by simp [hp])
      (by simp [hout])
    constructor <;> simp_all [State.JobHeld, State.AllIssued, Timers.off]

theorem inv_done_iff (hp : s.phase = .done) :
    s.Inv ↔ s.JobHeld ∧ s.cause = none ∧ s.outstanding = 0 ∧ s.AllIssued ∧
      s.ctrlPending = false ∧ s.timers = ⟨false, false, true⟩ := by
  constructor
  · intro h
    exact ⟨h.job (by simp [hp]), h.cause_none (by simp [hp]),
      h.outstanding_zero (by simp [hp]) (by simp [hp]), h.all_issued (.inr (.inr hp)),
      h.ctrl_clear (by simp [hp]) (by simp [hp]) (by simp [hp]), by simpa [hp] using h.timers_running⟩
  · rintro ⟨hjob, hcause, hout, hindex, hctrl, htimers⟩
    have hbounds := hjob.bounds (.of_allIssued hout hindex) (by simp [hout]) (by simp [hctrl])
      (by simp [hctrl])
    constructor <;> simp_all [State.JobHeld, State.AllIssued]

theorem inv_failed_iff (hp : s.phase = .failed) :
    s.Inv ↔ s.JobHeld ∧ (∃ c, s.cause = some c ∧ s.CauseLegal c) ∧ s.CountersBounded ∧
      ¬(s.ctrlPending = true ∧ 0 < s.outstanding) ∧ s.timers = .off := by
  constructor
  · intro h
    obtain ⟨c, hc⟩ := Option.isSome_iff_exists.1 (h.cause_iff.2 hp)
    exact ⟨h.job (by simp [hp]), ⟨c, hc, h.cause_legal c hc⟩, h.counters (by simp [hp]),
      (h.bounds (by simp [hp])).not_both, by simpa [hp, Timers.off] using h.timers_running⟩
  · rintro ⟨hjob, ⟨c, hc, hlegal⟩, hcounters, hboth, htimers⟩
    have hbounds := hjob.bounds hcounters (by simp [hp]) (by simp [hp]) hboth
    constructor <;> simp_all [State.JobHeld, Timers.off]

/-- The invariant does not read the outputs, the inputs not yet consumed or the model's own counter. -/
theorem State.Inv.of_ports (h : s.Inv) (tx : List (List Byte)) (responses : List Response)
    (results : List OpResult) (inbox : List Event) :
    State.Inv { s with tx := tx, responses := responses, results := results, inbox := inbox } :=
  { h with
    bounds := fun hbusy => { h.bounds hbusy with }
    no_session := fun hidle => { h.no_session hidle with } }

end Sys2Proof.Machine
end

section
/-! PROOF. Each move of the sequencer keeps the invariant, and so does every step. -/

namespace Sys2Proof.Machine

variable {s : State}

/-- R175: a live session with a legal cause fails into a state that meets the invariant. -/
theorem inv_fail {c : Cause} (hjob : s.JobHeld) (hcounters : s.CountersBounded)
    (hboth : ¬(s.ctrlPending = true ∧ 0 < s.outstanding)) (hlegal : s.CauseLegal c) :
    (s.fail c).Inv :=
  (inv_failed_iff rfl).2 ⟨hjob, ⟨c, rfl, hlegal⟩, hcounters, hboth, rfl⟩

theorem State.Inv.fail {c : Cause} (h : s.Inv) (hbusy : s.Busy) (hlegal : s.CauseLegal c) :
    (s.fail c).Inv :=
  inv_fail (h.job hbusy) (h.counters hbusy) (h.bounds hbusy).not_both hlegal

/-- A slot returned keeps the bounds on the counters (R101). -/
theorem State.CountersBounded.returnSlot (h : s.CountersBounded) (hout : 0 < s.outstanding) :
    s.returnSlot.CountersBounded := by
  obtain ⟨hwindow, hindex, hle⟩ := h
  refine ⟨?_, hindex, ?_⟩
  · show s.outstanding - 1 ≤ s.window
    bv_omega
  · show s.outstanding - 1 ≤ s.nextIndex
    bv_omega

/-- A block handed over keeps the bounds on the counters, which do not overflow (R100, R115). -/
theorem State.CountersBounded.emitBlock (h : s.CountersBounded) (hguard : s.NextBlockEnabled)
    (f : List Byte) : (s.emitBlock f).CountersBounded := by
  obtain ⟨hwindow, hindex, hle⟩ := h
  obtain ⟨-, hnext, hfree⟩ := hguard
  refine ⟨?_, ?_, ?_⟩
  · show s.outstanding + 1 ≤ s.window
    bv_omega
  · show s.nextIndex + 1 ≤ s.blockCount
    bv_omega
  · show s.outstanding + 1 ≤ s.nextIndex + 1
    bv_omega

/-- What a session that retires a pending write still has (R129, R139). -/
theorem State.Inv.retireWrite (h : s.Inv) (hbusy : s.Busy) (hpending : s.WritePending) :
    s.retireWrite.JobHeld ∧ s.retireWrite.CountersBounded ∧
      ¬(s.retireWrite.ctrlPending = true ∧ 0 < s.retireWrite.outstanding) := by
  have hjob := h.job hbusy
  have hcounters := h.counters hbusy
  rcases s.retireWrite_cases hpending with ⟨-, hr⟩ | ⟨hctrl, hout, hr⟩ <;> rw [hr]
  · exact ⟨hjob, hcounters, by simp⟩
  · exact ⟨hjob, hcounters.returnSlot hout, by simp [hctrl]⟩

/-- R139: a late `txdone` in `Failed` keeps the invariant. -/
theorem State.Inv.retireWrite_of_failed (h : s.Inv) (hp : s.phase = .failed)
    (hpending : s.WritePending) : s.retireWrite.Inv := by
  obtain ⟨hjob, hcounters, hboth⟩ := h.retireWrite (by simp [hp]) hpending
  obtain ⟨-, hcause, -, -, htimers⟩ := (inv_failed_iff hp).1 h
  rcases s.retireWrite_cases hpending with ⟨-, hr⟩ | ⟨-, -, hr⟩ <;> rw [hr] at hjob hcounters hboth ⊢
  · exact (inv_failed_iff (s := s.retireCtrl) hp).2 ⟨hjob, hcause, hcounters, hboth, htimers⟩
  · exact (inv_failed_iff (s := s.returnSlot) hp).2 ⟨hjob, hcause, hcounters, hboth, htimers⟩

/-- R121: the session that `JOB_LOAD` makes meets the invariant. -/
theorem State.Inv.accepted {image : List Byte} {cfg : JobConfig} {c : Latched} (h : s.Inv)
    (hidle : s.phase = .idle) (himage : imageProblem image = none) (hcfg : latch cfg = .ok c) :
    (s.loadSession image c).enterAwaitingStatus.Inv := by
  obtain ⟨-, -, htimers⟩ := (inv_idle_iff hidle).1 h
  have hcount := blockCountOf_toNat himage
  have hpos : 1 ≤ blockCountOf image := by
    have := (imageProblem_eq_none.1 himage).1
    unfold ceilDiv at hcount
    bv_omega
  refine (inv_awaitingStatus_iff rfl).2 ⟨⟨⟨image, rfl, rfl⟩, latch_window_pos hcfg, hpos, hcount⟩,
    rfl, rfl, rfl, rfl, rfl, ?_⟩
  simp [htimers, Timers.off]

/-- R123, R124: every way out of the status wait. -/
theorem State.Inv.enterStarting (h : s.Inv) (hp : s.phase = .awaitingStatus) :
    s.enterStarting.Inv := by
  obtain ⟨hjob, hcause, hout, hindex, -, -, htimers⟩ := (inv_awaitingStatus_iff hp).1 h
  exact (inv_starting_iff rfl).2 ⟨hjob, hcause, hout, hindex, by simp [htimers, Timers.off]⟩

theorem State.Inv.statusTaken (h : s.Inv) (hp : s.phase = .awaitingStatus) (f : ControlFrame) :
    (s.latchCaps f).enterStarting.Inv :=
  (inv_starting_iff rfl).2 ((inv_starting_iff (s := s.enterStarting) rfl).1 (h.enterStarting hp))

theorem State.Inv.startIssued (h : s.Inv) (hp : s.phase = .starting) (f : List Byte) :
    (s.issueControl f).Inv :=
  (inv_starting_iff (s := s.issueControl f) hp).2 ((inv_starting_iff hp).1 h)

/-- R126: with no block sent yet and at least one to send, `Streaming` is not entered all sent. -/
theorem State.Inv.enterStreaming (h : s.Inv) (hp : s.phase = .starting) : s.enterStreaming.Inv := by
  obtain ⟨hjob, hcause, hout, hindex, htimers⟩ := (inv_starting_iff hp).1 h
  have hpos : 1 ≤ s.blockCount := hjob.2.2.1
  have hrest : ¬ s.AllSent := fun hsent => by
    have hall : s.nextIndex = s.blockCount := hsent.1
    bv_omega
  exact (inv_streaming_iff rfl).2 ⟨hjob, hcause, .of_index_zero hout hindex, rfl, hrest, htimers⟩

/-- R127: the write just handed over is pending, so not all is sent. -/
theorem State.Inv.emitBlock (h : s.Inv) (hguard : s.NextBlockEnabled) (f : List Byte) :
    (s.emitBlock f).Inv := by
  have hp := hguard.1
  obtain ⟨hjob, hcause, hcounters, hctrl, -, htimers⟩ := (inv_streaming_iff hp).1 h
  have hrest : ¬ (s.emitBlock f).AllSent := fun hsent => by
    have hout : s.outstanding + 1 = 0 := hsent.2
    have hslot : s.outstanding < s.window := hguard.2.2
    bv_omega
  exact (inv_streaming_iff (s := s.emitBlock f) hp).2
    ⟨hjob, hcause, hcounters.emitBlock hguard f, hctrl, hrest, htimers⟩

theorem State.Inv.returnSlot (h : s.Inv) (hp : s.phase = .streaming) (hout : 0 < s.outstanding)
    (hrest : ¬ s.returnSlot.AllSent) : s.returnSlot.Inv := by
  obtain ⟨hjob, hcause, hcounters, hctrl, -, htimers⟩ := (inv_streaming_iff hp).1 h
  exact (inv_streaming_iff (s := s.returnSlot) hp).2
    ⟨hjob, hcause, hcounters.returnSlot hout, hctrl, hrest, htimers⟩

theorem State.Inv.allSent (h : s.Inv) (hp : s.phase = .streaming)
    (hsent : s.returnSlot.AllSent) : s.returnSlot.enterAwaitingCompletion.Inv := by
  obtain ⟨hjob, hcause, -, hctrl, -, htimers⟩ := (inv_streaming_iff hp).1 h
  exact (inv_awaitingCompletion_iff rfl).2
    ⟨hjob, hcause, hsent.2, hsent.1, hctrl, by simp [htimers, Timers.off]⟩

theorem State.Inv.enterAcknowledging (h : s.Inv) (hp : s.phase = .awaitingCompletion) :
    s.enterAcknowledging.Inv := by
  obtain ⟨hjob, hcause, hout, hindex, -, htimers⟩ := (inv_awaitingCompletion_iff hp).1 h
  exact (inv_acknowledging_iff rfl).2 ⟨hjob, hcause, hout, hindex, by simp [htimers, Timers.off]⟩

theorem State.Inv.ackIssued (h : s.Inv) (hp : s.phase = .acknowledging) (f : List Byte) :
    (s.issueControl f).Inv :=
  (inv_acknowledging_iff (s := s.issueControl f) hp).2 ((inv_acknowledging_iff hp).1 h)

theorem State.Inv.enterDone (h : s.Inv) (hp : s.phase = .acknowledging) : s.enterDone.Inv := by
  obtain ⟨hjob, hcause, hout, hindex, htimers⟩ := (inv_acknowledging_iff hp).1 h
  exact (inv_done_iff rfl).2 ⟨hjob, hcause, hout, hindex, rfl, by simp [htimers, Timers.off]⟩

/-- R202: with no write pending, the released block is as R200 says. -/
theorem inv_release (hout : s.outstanding = 0) (hctrl : s.ctrlPending = false) : s.release.Inv :=
  (inv_idle_iff rfl).2 ⟨⟨hout, hctrl, rfl, rfl, rfl⟩, rfl, rfl⟩

theorem State.Cancellable.busy (h : s.Cancellable) : s.Busy := by
  rcases h with hp | hp | hp | hp | hp <;> simp [hp]

/-- Everything that consuming an input can do keeps the invariant. -/
theorem Moved.keeps_inv {e : Event} {t : State} (h : Moved s e t) (hs : s.Inv) : t.Inv := by
  cases h with
  | same => exact hs
  | returned | rejected | inProgress => exact hs.of_ports ..
  | accepted image cfg c hidle himage hcfg => exact hs.accepted hidle himage hcfg
  | statusTaken b f hp => exact hs.statusTaken hp f
  | statusSkipped hp | statusTimedOut hp => exact hs.enterStarting hp
  | lengthFatal b hwait hfatal =>
    exact hs.fail (by rcases hwait with hp | hp <;> simp [hp]) hfatal
  | startIssued hguard => exact hs.startIssued hguard.1 _
  | startConfirmed hp => exact hs.enterStreaming hp
  | blockEmitted hguard => exact hs.emitBlock hguard _
  | slotReturned hp hout hrest => exact hs.returnSlot hp hout hrest
  | allSent hp _ hsent => exact hs.allSent hp hsent
  | writeFailed e hp hpending =>
    obtain ⟨hjob, hcounters, hboth⟩ :=
      hs.retireWrite (by rcases hp with hp | hp | hp <;> simp [hp]) hpending
    exact inv_fail hjob hcounters hboth trivial
  | okRetired hp hpending => exact hs.retireWrite_of_failed hp hpending
  | errRetired e hp hpending => exact hs.retireWrite_of_failed hp hpending
  | completed b f hp => exact hs.enterAcknowledging hp
  | ackIssued hguard => exact hs.ackIssued hguard.1 _
  | ackConfirmed hp => exact hs.enterDone hp
  | timedOut hp => exact hs.fail (by simp [hp]) trivial
  | drained hp =>
    obtain ⟨-, -, hout, -, hctrl, -⟩ := (inv_done_iff hp).1 hs
    exact inv_release hout hctrl
  | released hguard => exact inv_release hguard.2.1 hguard.2.2
  | cancelled hp => exact hs.fail hp.busy trivial

/-- Settles O50, by the moves of a step: each keeps the invariant. -/
theorem everyStepKeepsTheInvariant : Obligations.EveryStepKeepsTheInvariant := by
  intro s t hs hstep
  rcases step_moved hstep with ⟨-, rfl⟩ | ⟨e, rest, -, hmoved⟩
  · exact hs
  · exact hmoved.keeps_inv (hs.of_ports s.tx s.responses s.results rest)

/-- Settles O49: no session, no cause and no timer at power-on. -/
theorem powerOnMeetsTheInvariant : Obligations.PowerOnMeetsTheInvariant :=
  (inv_idle_iff rfl).2 ⟨⟨rfl, rfl, rfl, rfl, rfl⟩, rfl, rfl⟩

end Sys2Proof.Machine
end

section
/-! PROOF. The frames of a job on the outbound stream (R54, R86, R116). -/

namespace Sys2Proof.Machine

variable {s t : State} {before : List (List Byte)} {image : List Byte}

/-- `t` has the job of `s`: the image and what the frames of the job are made of. -/
def SameJob (s t : State) : Prop :=
  t.img = s.img ∧ t.imgLen = s.imgLen ∧ t.blockCount = s.blockCount ∧ t.copies = s.copies ∧
    t.ackToken = s.ackToken

theorem SameJob.jobFrames_eq (h : SameJob s t) (image : List Byte) :
    jobFrames image t = jobFrames image s := by
  obtain ⟨-, -, hcount, hcopies, htoken⟩ := h
  simp only [jobFrames, startFrame, ackFrame, hcount, hcopies, htoken]

theorem sameJob_retireWrite (s : State) : SameJob s s.retireWrite := by
  unfold State.retireWrite
  split <;> exact ⟨rfl, rfl, rfl, rfl, rfl⟩

theorem retireWrite_tx (s : State) : s.retireWrite.tx = s.tx := by
  unfold State.retireWrite
  split <;> rfl

theorem retireWrite_phase (s : State) : s.retireWrite.phase = s.phase := by
  unfold State.retireWrite
  split <;> rfl

/-! ### Which frame of the job stands where -/

theorem length_dataFramesOf (image : List Byte) (n : Nat) : (dataFramesOf image n).length = n := by
  simp [dataFramesOf]

theorem jobFrames_start (image : List Byte) (s : State) :
    (jobFrames image s)[0]? = some (startFrame s) := rfl

theorem jobFrames_data {i : Nat} (hi : i < s.blockCount.toNat) :
    (jobFrames image s)[1 + i]? = some (dataBytes (BitVec.ofNat 16 i) (chunkOf image i)) := by
  simp [jobFrames, dataFramesOf, Nat.add_comm 1 i, List.getElem?_append, hi]

theorem jobFrames_ack (image : List Byte) (s : State) :
    (jobFrames image s)[1 + s.blockCount.toNat]? = some (ackFrame s) := by
  simp [jobFrames, Nat.add_comm 1, length_dataFramesOf]

/-- Block `i` of the image held is the chunk R112 says. -/
theorem chunkAt_eq_chunkOf {i : Nat} (hbusy : s.Busy) (hi : i < s.blockCount.toNat)
    (himg : s.img = Memory.ofBytes image) (hlen : s.imgLen = image.length)
    (hcount : s.blockCount.toNat = ceilDiv s.imgLen 16) :
    chunkAt i s = .next (chunkOf image i) := by
  have hin : 16 * i ≤ image.length := by
    rw [hcount, hlen, ceilDiv] at hi
    omega
  rw [chunkAt_of_image hbusy hi hlen himg hin]
  simp [chunkOf]

/-! ### The stream after a move -/

/-- A move that sends nothing keeps the frames sent: it fails the job, or counts as many frames. -/
theorem State.FramesSent.of_silent (h : s.FramesSent before image) (hjob : SameJob s t)
    (htx : t.tx = s.tx)
    (hcount : t.phase = .failed ∨
      s.phase ≠ .failed ∧ t.phase ≠ .failed ∧ framesHandedOver t = framesHandedOver s) :
    t.FramesSent before image := by
  obtain ⟨himg, hlen, hsent⟩ := h
  refine ⟨hjob.1.trans himg, hjob.2.1.trans hlen, ?_⟩
  rw [hjob.jobFrames_eq, htx]
  rcases hcount with hp | ⟨hs, ht, hn⟩
  · rw [if_pos hp]
    split at hsent
    · exact hsent
    · exact ⟨_, hsent⟩
  · rw [if_neg ht, hn]
    rwa [if_neg hs] at hsent

/-- A move that sends one frame keeps the frames sent when it is the next frame of the job. -/
theorem State.FramesSent.of_send {f : List Byte} (h : s.FramesSent before image)
    (hjob : SameJob s t) (htx : t.tx = s.tx ++ [f]) (hs : s.phase ≠ .failed)
    (ht : t.phase ≠ .failed) (hcount : framesHandedOver t = framesHandedOver s + 1)
    (hnext : (jobFrames image s)[framesHandedOver s]? = some f) : t.FramesSent before image := by
  obtain ⟨himg, hlen, hsent⟩ := h
  refine ⟨hjob.1.trans himg, hjob.2.1.trans hlen, ?_⟩
  rw [if_neg hs] at hsent
  rw [if_neg ht, hjob.jobFrames_eq, htx, hsent, hcount, List.take_add_one, hnext]
  simp

/-! ### How many frames the registers say -/

theorem framesHandedOver_awaitingStatus (hp : s.phase = .awaitingStatus) :
    framesHandedOver s = 0 := by simp [framesHandedOver, hp]

theorem framesHandedOver_starting (hp : s.phase = .starting) :
    framesHandedOver s = if s.ctrlPending = true then 1 else 0 := by simp [framesHandedOver, hp]

theorem framesHandedOver_streaming (hp : s.phase = .streaming) :
    framesHandedOver s = 1 + s.nextIndex.toNat := by simp [framesHandedOver, hp]

theorem framesHandedOver_awaitingCompletion (hp : s.phase = .awaitingCompletion) :
    framesHandedOver s = 1 + s.nextIndex.toNat := by simp [framesHandedOver, hp]

theorem framesHandedOver_acknowledging (hp : s.phase = .acknowledging) :
    framesHandedOver s = 1 + s.nextIndex.toNat + if s.ctrlPending = true then 1 else 0 := by
  simp [framesHandedOver, hp]

theorem framesHandedOver_done (hp : s.phase = .done) :
    framesHandedOver s = 1 + s.nextIndex.toNat + 1 := by simp [framesHandedOver, hp]

/-! ### Each move -/

theorem State.FramesSent.fail {c : Cause} (h : s.FramesSent before image) :
    (s.fail c).FramesSent before image :=
  h.of_silent ⟨rfl, rfl, rfl, rfl, rfl⟩ rfl (.inl rfl)

theorem State.FramesSent.retireWrite_fail {c : Cause} (h : s.FramesSent before image) :
    (s.retireWrite.fail c).FramesSent before image :=
  h.of_silent (sameJob_retireWrite s) (retireWrite_tx s) (.inl rfl)

theorem State.FramesSent.retireWrite_of_failed (h : s.FramesSent before image)
    (hp : s.phase = .failed) : s.retireWrite.FramesSent before image :=
  h.of_silent (sameJob_retireWrite s) (retireWrite_tx s) (.inl ((retireWrite_phase s).trans hp))

/-- The frames sent are read from the job, `tx` and the registers that count, not from the other
ports. -/
theorem State.FramesSent.of_ports (h : s.FramesSent before image) (responses : List Response)
    (results : List OpResult) (inbox : List Event) :
    State.FramesSent before image
      { s with responses := responses, results := results, inbox := inbox } := h

/-- No frame goes out before `Starting`. -/
theorem State.FramesSent.enterStarting (h : s.FramesSent before image) (hs : s.Inv)
    (hp : s.phase = .awaitingStatus) : s.enterStarting.FramesSent before image := by
  obtain ⟨-, -, -, -, hctrl, -⟩ := (inv_awaitingStatus_iff hp).1 hs
  refine h.of_silent ⟨rfl, rfl, rfl, rfl, rfl⟩ rfl (.inr ⟨by simp [hp], by simp, ?_⟩)
  rw [framesHandedOver_awaitingStatus hp, framesHandedOver_starting rfl]
  simp [hctrl]

theorem State.FramesSent.startIssued (h : s.FramesSent before image)
    (hguard : s.IssueStartEnabled) : (s.issueControl (startFrame s)).FramesSent before image := by
  obtain ⟨hp, hctrl⟩ := hguard
  have hcount : framesHandedOver s = 0 := by simp [framesHandedOver_starting hp, hctrl]
  refine h.of_send ⟨rfl, rfl, rfl, rfl, rfl⟩ rfl (by simp [hp]) (by simp [hp]) ?_ ?_
  · rw [framesHandedOver_starting (s := s.issueControl _) hp, hcount]
    simp
  · rw [hcount]
    exact jobFrames_start image s

theorem State.FramesSent.startConfirmed (h : s.FramesSent before image) (hs : s.Inv)
    (hp : s.phase = .starting) (hctrl : s.ctrlPending = true) :
    s.enterStreaming.FramesSent before image := by
  obtain ⟨-, -, -, hindex, -⟩ := (inv_starting_iff hp).1 hs
  refine h.of_silent ⟨rfl, rfl, rfl, rfl, rfl⟩ rfl (.inr ⟨by simp [hp], by simp, ?_⟩)
  rw [framesHandedOver_streaming rfl, framesHandedOver_starting hp]
  simp [hctrl, hindex]

/-- R36: the block handed over is the next data frame of the job. -/
theorem State.FramesSent.blockEmitted {p : List Byte} (h : s.FramesSent before image) (hs : s.Inv)
    (hguard : s.NextBlockEnabled) (hchunk : chunkAt s.nextIndex.toNat s = .next p) :
    (s.emitBlock (dataBytes s.nextIndex p)).FramesSent before image := by
  obtain ⟨hp, hnext, -⟩ := hguard
  have hbusy : s.Busy := by simp [hp]
  have hi : s.nextIndex.toNat < s.blockCount.toNat := hnext
  rw [chunkAt_eq_chunkOf hbusy hi h.1 h.2.1 (hs.bounds hbusy).count_eq] at hchunk
  cases hchunk
  have hcount := framesHandedOver_streaming hp
  refine h.of_send ⟨rfl, rfl, rfl, rfl, rfl⟩ rfl (by simp [hp]) (by simp [hp]) ?_ ?_
  · rw [framesHandedOver_streaming (s := s.emitBlock _) hp, hcount, State.emitBlock_nextIndex]
    bv_omega
  · rw [hcount, jobFrames_data hi, BitVec.ofNat_toNat, BitVec.setWidth_eq]

theorem State.FramesSent.returnSlot (h : s.FramesSent before image) (hp : s.phase = .streaming) :
    s.returnSlot.FramesSent before image :=
  h.of_silent ⟨rfl, rfl, rfl, rfl, rfl⟩ rfl (.inr ⟨by simp [hp], by simp [hp], rfl⟩)

theorem State.FramesSent.allSent (h : s.FramesSent before image) (hp : s.phase = .streaming) :
    s.returnSlot.enterAwaitingCompletion.FramesSent before image := by
  refine h.of_silent ⟨rfl, rfl, rfl, rfl, rfl⟩ rfl (.inr ⟨by simp [hp], by simp, ?_⟩)
  rw [framesHandedOver_awaitingCompletion rfl, framesHandedOver_streaming hp]
  rfl

theorem State.FramesSent.completed (h : s.FramesSent before image) (hs : s.Inv)
    (hp : s.phase = .awaitingCompletion) : s.enterAcknowledging.FramesSent before image := by
  obtain ⟨-, -, -, -, hctrl, -⟩ := (inv_awaitingCompletion_iff hp).1 hs
  refine h.of_silent ⟨rfl, rfl, rfl, rfl, rfl⟩ rfl (.inr ⟨by simp [hp], by simp, ?_⟩)
  rw [framesHandedOver_acknowledging rfl, framesHandedOver_awaitingCompletion hp]
  simp [hctrl]

/-- Every block is out in `Acknowledging`, so the ACK is the next frame of the job. -/
theorem State.FramesSent.ackIssued (h : s.FramesSent before image) (hs : s.Inv)
    (hguard : s.IssueAckEnabled) : (s.issueControl (ackFrame s)).FramesSent before image := by
  obtain ⟨hp, hctrl⟩ := hguard
  obtain ⟨-, -, -, hindex, -⟩ := (inv_acknowledging_iff hp).1 hs
  have hcount : framesHandedOver s = 1 + s.blockCount.toNat := by
    simp [framesHandedOver_acknowledging hp, hctrl, hindex]
  refine h.of_send ⟨rfl, rfl, rfl, rfl, rfl⟩ rfl (by simp [hp]) (by simp [hp]) ?_ ?_
  · rw [framesHandedOver_acknowledging (s := s.issueControl _) hp, hcount]
    simp [hindex]
  · rw [hcount]
    exact jobFrames_ack image s

theorem State.FramesSent.ackConfirmed (h : s.FramesSent before image)
    (hp : s.phase = .acknowledging) (hctrl : s.ctrlPending = true) :
    s.enterDone.FramesSent before image := by
  refine h.of_silent ⟨rfl, rfl, rfl, rfl, rfl⟩ rfl (.inr ⟨by simp [hp], by simp, ?_⟩)
  rw [framesHandedOver_done rfl, framesHandedOver_acknowledging hp]
  simp [hctrl]

/-- Everything that consuming an input can do inside a session keeps the frames sent. -/
theorem Moved.keeps_framesSent {e : Event} (h : Moved s e t) (hs : s.Inv) (hbusy : s.Busy)
    (hsent : s.FramesSent before image) (hstays : t.Busy) : t.FramesSent before image := by
  cases h with
  | same => exact hsent
  | returned | inProgress => exact hsent.of_ports ..
  | accepted _ _ _ hidle | rejected _ _ _ hidle => exact absurd hidle hbusy
  | statusTaken b f hp => exact hsent.enterStarting hs hp
  | statusSkipped hp | statusTimedOut hp => exact hsent.enterStarting hs hp
  | lengthFatal | timedOut | cancelled => exact hsent.fail
  | startIssued hguard => exact hsent.startIssued hguard
  | startConfirmed hp hctrl => exact hsent.startConfirmed hs hp hctrl
  | blockEmitted hguard p hchunk => exact hsent.blockEmitted hs hguard hchunk
  | slotReturned hp => exact hsent.returnSlot hp
  | allSent hp => exact hsent.allSent hp
  | writeFailed => exact hsent.retireWrite_fail
  | okRetired hp => exact hsent.retireWrite_of_failed hp
  | errRetired e hp => exact hsent.retireWrite_of_failed hp
  | completed b f hp => exact hsent.completed hs hp
  | ackIssued hguard => exact hsent.ackIssued hs hguard
  | ackConfirmed hp hctrl => exact hsent.ackConfirmed hp hctrl
  | drained | released => exact absurd rfl hstays

/-- Settles O52, by the moves of a step: each sends nothing or the next frame of the job. -/
theorem sessionSendsTheFramesOfItsJobInOrder :
    Obligations.SessionSendsTheFramesOfItsJobInOrder := by
  intro before image s t hs hbusy hsent hstep hstays
  rcases step_moved hstep with ⟨-, rfl⟩ | ⟨e, rest, -, hmoved⟩
  · exact hsent
  · exact hmoved.keeps_framesSent (hs.of_ports s.tx s.responses s.results rest) hbusy
      (hsent.of_ports s.responses s.results rest) hstays

end Sys2Proof.Machine
end

section
/-! PROOF. A request outside the configuration space (R21, R204, U23). -/

namespace Sys2Proof.Machine

variable {image : List Byte} {cfg : JobConfig} {s : State}

theorem windowOperand_of_out_of_range {v : Int} (h : cfg.flowControlWindow = some v)
    (hv : v < 1 ∨ 65535 < v) : windowOperand cfg = none := by
  simp only [windowOperand, h]
  exact if_neg (by omega)

theorem windowOperand_of_asks {w : Word} (h : AsksWindow cfg w) : windowOperand cfg = some w := by
  rcases h with ⟨hnone, rfl⟩ | ⟨hsome, hpos⟩
  · simp only [windowOperand, hnone]
  · have hrange : 1 ≤ (w.toNat : Int) ∧ (w.toNat : Int) ≤ 65535 := by bv_omega
    simp only [windowOperand, hsome, if_pos hrange, Int.toNat_natCast, BitVec.ofNat_toNat,
      BitVec.setWidth_eq]

theorem latch_of_no_window (h : windowOperand cfg = none) : latch cfg = .error .windowOutOfRange := by
  simp only [latch, h]

theorem latch_of_no_duration {w : Word} (hw : windowOperand cfg = some w)
    (h : cfg.statusWaitTimeout = none ∨ cfg.completionWaitTimeout = none ∨ cfg.ackDrainGrace = none) :
    latch cfg = .error .durationMissing := by
  unfold latch
  rw [hw]
  dsimp only
  split
  · rename_i hs hc hg
    simp [hs, hc, hg] at h
  · rfl

/-- In `Idle`, with a valid image, what the configuration is refused for refuses all three rows that
load a job. -/
theorem exec_refused_of_latch {r : Refusal} (hidle : s.phase = .idle) (hpos : 1 ≤ image.length)
    (hle : image.length ≤ 1048560) (hcfg : latch cfg = .error r) :
    exec (.printReqAccept image cfg) s = .refused r ∧
      exec (.printReqReject image cfg) s = .refused r ∧
      exec (.jobLoad image cfg) s = .refused r := by
  have hload : loadJob image cfg s = .refused r := by
    simp only [loadJob, imageProblem_eq_none.2 ⟨hpos, hle⟩, hcfg]
  refine ⟨?_, ?_, ?_⟩
  · simp only [exec, execPrintReqAccept, if_pos hidle, hload]
  · simp only [exec, execPrintReqReject, if_pos hidle, hload]
  · simp only [exec, execJobLoad, if_pos hidle, hload]

/-- Settles O22, by what the configuration latches to: the window first, then the durations. -/
theorem illegalConfigurationIsRefused : Obligations.IllegalConfigurationIsRefused := by
  intro image cfg s hidle hpos hle
  constructor
  · rintro ⟨v, hv, hrange⟩
    exact exec_refused_of_latch hidle hpos hle
      (latch_of_no_window (windowOperand_of_out_of_range hv hrange))
  · rintro ⟨w, hw⟩ hmissing
    exact exec_refused_of_latch hidle hpos hle
      (latch_of_no_duration (windowOperand_of_asks hw) hmissing)

end Sys2Proof.Machine
end

section
/-! PROOF. The frame of the image memory (R29, R41, R202): what each instruction leaves of it. -/

namespace Sys2Proof.Machine

variable {s t : State}

/-- The image memory of `t` is that of `s`. -/
def ImageKept (s t : State) : Prop := t.img = s.img ∧ t.imgLen = s.imgLen

theorem imageKept_refl (s : State) : ImageKept s s := ⟨rfl, rfl⟩

theorem imageKept_retireWrite (s : State) : ImageKept s s.retireWrite :=
  have hjob := sameJob_retireWrite s
  ⟨hjob.1, hjob.2.1⟩

/-- R190: no notification writes the image. -/
theorem imageKept_receive (d : Except DecodeKind ControlFrame) (s : State) :
    ImageKept s (s.receive d) := by
  rcases s.receive_cases d with h | ⟨f, -, -, -, h⟩ | ⟨f, -, -, -, -, h⟩ | ⟨-, -, -, h⟩ <;> rw [h]
  all_goals exact ⟨rfl, rfl⟩

/-- The inputs that can create or release a session. -/
def Event.movesImage : Event → Bool
  | .printReq _ _ | .tGrace | .spontaneous .releaseSession => true
  | _ => false

/-- Every other input keeps the image. -/
theorem Moved.imageKept {e : Event} (h : Moved s e t) (he : e.movesImage = false) :
    ImageKept s t := by
  cases h with
  | accepted | drained | released => cases he
  | writeFailed | okRetired | errRetired => exact imageKept_retireWrite s
  | _ => exact ⟨rfl, rfl⟩

theorem imageKept_deliver (e : Event) (he : e.movesImage = false) (h : deliver e s = .next t) :
    ImageKept s t := (deliver_moved h).imageKept he

/-! ### Frames -/

theorem imageKept_execStart {dir : Direction} {w1 w2 w3 w4 w5 : Word}
    (h : execStart dir w1 w2 w3 w4 w5 s = .next t) : ImageKept s t := by
  cases dir with
  | received => cases h; exact imageKept_receive _ s
  | sent =>
    simp only [execStart] at h
    split at h <;> cases h <;> exact ⟨rfl, rfl⟩

theorem imageKept_execAck {dir : Direction} {bc token : Word}
    (h : execAck dir bc token s = .next t) : ImageKept s t := by
  cases dir with
  | received => cases h; exact imageKept_receive _ s
  | sent =>
    simp only [execAck] at h
    split at h <;> cases h <;> exact ⟨rfl, rfl⟩

theorem imageKept_execData {dir : Direction} {index : Word} {payload : List Byte}
    (h : execData dir index payload s = .next t) : ImageKept s t := by
  cases dir with
  | received => cases h; exact imageKept_receive _ s
  | sent =>
    simp only [execData] at h
    split at h
    · split at h
      · split at h <;> cases h <;> exact ⟨rfl, rfl⟩
      · cases h
      · cases h
    · cases h; exact imageKept_refl s

/-! ### Operations -/

theorem imageKept_execAcquire (h : execAcquire s = .next t) : ImageKept s t := by
  unfold execAcquire at h
  split at h
  · cases h
  · split at h <;> cases h <;> exact ⟨rfl, rfl⟩

theorem imageKept_execRelease (h : execRelease s = .next t) : ImageKept s t := by
  unfold execRelease at h
  split at h <;> cases h
  exact ⟨rfl, rfl⟩

theorem imageKept_execChunk {i : Nat} (h : execChunk i s = .next t) : ImageKept s t := by
  unfold execChunk at h
  split at h <;> cases h
  exact ⟨rfl, rfl⟩

/-- `JOB_LOAD` keeps the image or, in `Idle`, loads the request's (R110). -/
theorem image_execJobLoad {image : List Byte} {cfg : JobConfig}
    (h : execJobLoad image cfg s = .next t) :
    ImageKept s t ∨ s.phase = .idle ∧ t.imgLen = image.length ∧ t.img = Memory.ofBytes image := by
  unfold execJobLoad at h
  split at h
  · rename_i hidle
    rcases loadJob_cases image cfg s with ⟨c, -, hl⟩ | ⟨r, -, -, hl⟩ | ⟨c, -, -, hl⟩ <;> rw [hl] at h <;>
      cases h
    · exact .inl ⟨rfl, rfl⟩
    · exact .inr ⟨hidle, rfl, rfl⟩
  · cases h; exact .inl ⟨rfl, rfl⟩

/-! ### Sequencer steps -/

/-- An accepted request loads its image, in `Idle` (R121). -/
theorem image_execPrintReqAccept {image : List Byte} {cfg : JobConfig}
    (h : execPrintReqAccept image cfg s = .next t) :
    ImageKept s t ∨ s.phase = .idle ∧ t.imgLen = image.length ∧ t.img = Memory.ofBytes image := by
  unfold execPrintReqAccept at h
  split at h
  · rename_i hidle
    rcases loadJob_cases image cfg s with ⟨c, -, hl⟩ | ⟨r, -, -, hl⟩ | ⟨c, -, -, hl⟩ <;> rw [hl] at h <;>
      cases h
    · exact .inl ⟨rfl, rfl⟩
    · exact .inr ⟨hidle, rfl, rfl⟩
  · cases h; exact .inl ⟨rfl, rfl⟩

theorem imageKept_execPrintReqReject {image : List Byte} {cfg : JobConfig}
    (h : execPrintReqReject image cfg s = .next t) : ImageKept s t := by
  unfold execPrintReqReject at h
  split at h
  · split at h <;> cases h <;> exact ⟨rfl, rfl⟩
  · cases h; exact ⟨rfl, rfl⟩

theorem imageKept_execRxStatus {b : List Byte} (h : execRxStatus b s = .next t) : ImageKept s t := by
  unfold execRxStatus at h
  split at h
  · split at h
    · split at h <;> cases h <;> exact ⟨rfl, rfl⟩
    · cases h; exact imageKept_refl s
  · cases h; exact imageKept_refl s

theorem imageKept_execTxdoneOkInStarting (h : execTxdoneOkInStarting s = .next t) :
    ImageKept s t := by
  unfold execTxdoneOkInStarting at h
  split at h
  · split at h <;> cases h
    exact ⟨rfl, rfl⟩
  · cases h; exact imageKept_refl s

theorem imageKept_execTxdoneOkInStreaming (h : execTxdoneOkInStreaming s = .next t) :
    ImageKept s t := by
  unfold execTxdoneOkInStreaming at h
  split at h
  · split at h
    · split at h <;> cases h <;> exact ⟨rfl, rfl⟩
    · cases h
  · cases h; exact imageKept_refl s

theorem imageKept_execTxdoneOkInAcknowledging (h : execTxdoneOkInAcknowledging s = .next t) :
    ImageKept s t := by
  unfold execTxdoneOkInAcknowledging at h
  split at h
  · split at h <;> cases h
    exact ⟨rfl, rfl⟩
  · cases h; exact imageKept_refl s

theorem imageKept_execRxCompleteMatch {b : List Byte} (h : execRxCompleteMatch b s = .next t) :
    ImageKept s t := by
  unfold execRxCompleteMatch at h
  split at h <;> cases h <;> exact ⟨rfl, rfl⟩

theorem imageKept_undecodableInWait (k : DecodeKind) (s : State) :
    ImageKept s (s.undecodableInWait k) := by
  unfold State.undecodableInWait
  split <;> exact ⟨rfl, rfl⟩

theorem imageKept_execRxUndecodableInWait {b : List Byte}
    (h : execRxUndecodableInWait b s = .next t) : ImageKept s t := by
  unfold execRxUndecodableInWait at h
  split at h
  · split at h <;> cases h
    · exact imageKept_refl s
    · exact imageKept_undecodableInWait _ s
  · cases h; exact imageKept_refl s

/-- The grace timer drops the image in `Done` only (R138). -/
theorem image_execTGrace (h : execTGrace s = .next t) :
    ImageKept s t ∨ s.phase = .done ∧ t = s.release := by
  unfold execTGrace at h
  split at h <;> cases h
  · exact .inr ⟨by assumption, rfl⟩
  · exact .inl (imageKept_refl _)

/-- `release_session` drops the image in `Failed` only (R139). -/
theorem image_execReleaseSession (h : execReleaseSession s = .next t) :
    ImageKept s t ∨ s.phase = .failed ∧ t = s.release := by
  unfold execReleaseSession at h
  split at h
  · rename_i hguard
    cases h
    exact .inr ⟨hguard.1, rfl⟩
  · cases h; exact .inl (imageKept_refl s)

/-! ### Every instruction -/

/-- The image that `i` leaves: as it was, the request's, or none. -/
def ImageAfter (i : Instr) (s t : State) : Prop :=
  ImageKept s t
  ∨ (∃ image cfg, (i = .jobLoad image cfg ∨ i = .printReqAccept image cfg) ∧ s.phase = .idle ∧
      t.imgLen = image.length ∧ t.img = Memory.ofBytes image)
  ∨ ((i = .tGrace ∧ s.phase = .done ∨ i = .releaseSession ∧ s.phase = .failed) ∧ t = s.release)

theorem exec_imageAfter {i : Instr} (h : exec i s = .next t) : ImageAfter i s t := by
  cases i with
  -- the instructions that load or drop an image
  | jobLoad image cfg =>
    exact (image_execJobLoad h).imp_right fun hloaded => .inl ⟨image, cfg, .inl rfl, hloaded⟩
  | printReqAccept image cfg =>
    exact (image_execPrintReqAccept h).imp_right fun hloaded => .inl ⟨image, cfg, .inr rfl, hloaded⟩
  | tGrace =>
    exact (image_execTGrace h).imp_right fun ⟨hp, ht⟩ => .inr ⟨.inl ⟨rfl, hp⟩, ht⟩
  | releaseSession =>
    exact (image_execReleaseSession h).imp_right fun ⟨hp, ht⟩ => .inr ⟨.inr ⟨rfl, hp⟩, ht⟩
  -- received frames, and frames handed over
  | status | complete | midProgress => cases h; exact .inl (imageKept_receive _ s)
  | start => exact .inl (imageKept_execStart h)
  | ack => exact .inl (imageKept_execAck h)
  | data => exact .inl (imageKept_execData h)
  -- operations
  | encCtrl | decCtrl | encData | decData => cases h; exact .inl ⟨rfl, rfl⟩
  | acquire => exact .inl (imageKept_execAcquire h)
  | release => exact .inl (imageKept_execRelease h)
  | chunk => exact .inl (imageKept_execChunk h)
  | opNextBlock | nextBlock => exact .inl (imageKept_deliver (.spontaneous .nextBlock) rfl h)
  -- sequencer steps that an input or an offer runs in every state
  | skipStatus => exact .inl (imageKept_deliver (.spontaneous .skipStatus) rfl h)
  | issueStart => exact .inl (imageKept_deliver (.spontaneous .issueStart) rfl h)
  | issueAck => exact .inl (imageKept_deliver (.spontaneous .issueAck) rfl h)
  | tStatus => exact .inl (imageKept_deliver .tStatus rfl h)
  | tComplete => exact .inl (imageKept_deliver .tComplete rfl h)
  | cancel => exact .inl (imageKept_deliver .cancel rfl h)
  | rxClosed => exact .inl (imageKept_deliver .rxClosed rfl h)
  | txdoneErr e => exact .inl (imageKept_deliver (.txdoneErr e) rfl h)
  -- the other sequencer steps
  | printReqReject => exact .inl (imageKept_execPrintReqReject h)
  | rxStatus => exact .inl (imageKept_execRxStatus h)
  | txdoneOkInStarting => exact .inl (imageKept_execTxdoneOkInStarting h)
  | txdoneOkInStreaming => exact .inl (imageKept_execTxdoneOkInStreaming h)
  | txdoneOkInAcknowledging => exact .inl (imageKept_execTxdoneOkInAcknowledging h)
  | rxCompleteMatch => exact .inl (imageKept_execRxCompleteMatch h)
  | rxUndecodableInWait => exact .inl (imageKept_execRxUndecodableInWait h)
  | rxDiscard | rxOtherInAwaitingCompletion | rxInDone =>
    cases h; exact .inl (imageKept_refl s)

/-- Settles O56, by what each instruction leaves of the image. -/
theorem imageBytesChangeOnlyWithTheSession : Obligations.ImageBytesChangeOnlyWithTheSession := by
  intro i s t h
  rcases exec_imageAfter h with ⟨himg, hlen⟩ | ⟨image, cfg, hi, hidle, hlen, himg⟩ | ⟨hi, rfl⟩
  · exact ⟨fun hwf => himg ▸ hwf, .inl ⟨fun a => by rw [himg], hlen⟩⟩
  · refine ⟨fun _ => himg ▸ Memory.wf_ofBytes image, .inr (.inl ⟨image, cfg, hi, hidle, hlen, ?_⟩)⟩
    intro a
    rw [himg, Memory.read_ofBytes]
  · exact ⟨fun _ => wf_release s, .inr (.inr ⟨hi, rfl, fun _ => rfl⟩)⟩

end Sys2Proof.Machine
end

section
/-! PROOF. What a step runs (R49, R50, R179): the head of the inbox is delivered, and a notification
that decodes runs the instruction it decodes to. -/

namespace Sys2Proof.Machine

variable {s : State} {rest : List Event}

theorem step_of_inbox_cons {e : Event} (h : s.inbox = e :: rest) :
    step s = deliver e { s with inbox := rest } := by
  simp only [step, h]

theorem deliver_rx_of_decode {b : List Byte} {i : Instr} (h : decode b = .ok i) (s : State) :
    deliver (.rx b) s = exec i s := by
  simp only [deliver, deliverRx, h]

/-- Settles O8: the notification is delivered, and delivered it runs what it decodes to. -/
theorem stepRunsTheDecodedFrame : Obligations.StepRunsTheDecodedFrame := by
  intro s b rest i hinbox hdecode
  calc step s = deliver (.rx b) { s with inbox := rest } := step_of_inbox_cons hinbox
    _ = exec i { s with inbox := rest } := deliver_rx_of_decode hdecode _

end Sys2Proof.Machine
end

section
/-! PROOF. The decoder on the two layouts (R60, R61): what it reads from any bytes laid out as a control
or a data frame, and from the bytes of the encoder. -/

namespace Sys2Proof

/-- R60, R91: the opcode byte names the frame, and `pad` may be anything (R68). -/
theorem decode_controlLayout {o : Byte} {op : Opcode} (hop : opcodeOf o = some op)
    (pad a1 a2 b1 b2 c1 c2 d1 d2 e1 e2 : Byte) :
    decode [o, pad, a1, a2, b1, b2, c1, c2, d1, d2, e1, e2] =
      .ok (ControlFrame.toInstr
        ⟨op, le16 a1 a2, le16 b1 b2, le16 c1 c2, le16 d1 d2, le16 e1 e2⟩) := by
  simp [decode, decControl, Config.dataLen, Config.ctrlLen, wordAt, byteAt, hop]

/-- R67: twelve bytes whose first is no opcode. -/
theorem decode_illegalOpcode {o : Byte} (hop : opcodeOf o = none)
    (pad a1 a2 b1 b2 c1 c2 d1 d2 e1 e2 : Byte) :
    decode [o, pad, a1, a2, b1, b2, c1, c2, d1, d2, e1, e2] = .error .unknownOpcode := by
  simp [decode, decControl, Config.dataLen, Config.ctrlLen, byteAt, hop]

/-- R61, R93: the index and the payload after the marker. -/
theorem decode_dataLayout (a1 a2 : Byte) {payload : List Byte} (hlen : payload.length = 16) :
    decode ([0x55, 0x00, a1, a2] ++ payload) = .ok (.data .received (le16 a1 a2) payload) := by
  simp [decode, decData, Config.dataLen, wordAt, byteAt, hlen]

/-- R70: a length of neither layout. -/
theorem decode_badLength {b : List Byte} (hctrl : b.length ≠ 12) (hdata : b.length ≠ 20) :
    decode b = .error .badLength := by
  simp [decode, decControl, Config.dataLen, Config.ctrlLen, hctrl, hdata]

theorem decode_controlBytes (op : Opcode) (w1 w2 w3 w4 w5 : Word) :
    decode (controlBytes op w1 w2 w3 w4 w5) =
      .ok (ControlFrame.toInstr ⟨op, w1, w2, w3, w4, w5⟩) := by
  simp only [controlBytes, decode_controlLayout (opcodeOf_code op), le16_lo8_hi8]

theorem decode_dataBytes (index : Word) {payload : List Byte} (hlen : payload.length = 16) :
    decode (dataBytes index payload) = .ok (.data .received index payload) := by
  simp only [dataBytes, decode_dataLayout _ _ hlen, le16_lo8_hi8]

/-- What the well-formedness of a data frame says of its payload (R61). -/
theorem length_payload_of_wf {dir : Direction} {index : Word} {payload : List Byte}
    (h : (Instr.data dir index payload).wf = true) : payload.length = 16 := by
  simp only [Instr.wf, payloadLengthOk, Config.chunkLen, Bool.and_eq_true, beq_iff_eq] at h
  exact h.1

/-- Settles O2, by the layout of each frame kind; what is no frame has no bytes. -/
theorem decodeOfEncodeIsTheFrame : Obligations.DecodeOfEncodeIsTheFrame := by
  intro i b hwf henc
  cases i with
  | status | start | ack | complete | midProgress =>
    obtain rfl := Option.some.inj henc
    exact decode_controlBytes ..
  | data dir index payload =>
    obtain rfl := Option.some.inj henc
    exact decode_dataBytes index (length_payload_of_wf hwf)
  | _ => cases henc

/-- Settles O1, by what the decoder reads from each layout. -/
theorem writtenFramesDecode : Obligations.WrittenFramesDecode :=
  ⟨decode_controlLayout (op := .start) rfl .., decode_controlLayout (op := .complete) rfl ..,
    decode_controlLayout (op := .midProgress) rfl .., decode_controlLayout (op := .status) rfl ..,
    decode_dataLayout 0x39 0x00 List.length_replicate, decode_illegalOpcode rfl ..,
    decode_badLength (by decide) (by decide)⟩

end Sys2Proof
end

section
/-! PROOF. The frame kinds (40_frames.md): what a received frame does in each state, and what a sent one
does when it is the frame due and when it is not. -/

namespace Sys2Proof.Machine

variable {s : State} {f : ControlFrame} {image : List Byte}

/-! ### Received frames -/

/-- A received control frame runs as the notification it came from (R49). -/
theorem exec_toInstr (f : ControlFrame) (s : State) :
    exec f.toInstr s = .next (s.receive (.ok f)) := by
  obtain ⟨op, w1, w2, w3, w4, w5⟩ := f
  cases op <;> rfl

/-- R80, R123. -/
theorem State.receive_status (hp : s.phase = .awaitingStatus) (hop : f.op = .status) :
    s.receive (.ok f) = (s.latchCaps f).enterStarting := by
  simp only [State.receive, hp, if_pos hop]

/-- R83, R132. -/
theorem State.receive_complete (hp : s.phase = .awaitingCompletion) (hop : f.op = .complete)
    (hcount : f.w1 = s.blockCount) : s.receive (.ok f) = s.enterAcknowledging := by
  simp only [State.receive, hp, if_pos (And.intro hop hcount)]

/-- Every frame but an awaited `Status` or `Complete` is discarded (R81, R84, R130, R135). -/
theorem State.receive_unawaited (hstatus : ¬(f.op = .status ∧ s.phase = .awaitingStatus))
    (hcomplete : ¬(f.op = .complete ∧ s.phase = .awaitingCompletion ∧ f.w1 = s.blockCount)) :
    s.receive (.ok f) = s := by
  rcases s.receive_cases (.ok f) with h | ⟨g, hg, hop, hp, -⟩ | ⟨g, hg, hop, hcount, hp, -⟩ | ⟨hk, -⟩
  · exact h
  · cases hg; exact absurd ⟨hop, hp⟩ hstatus
  · cases hg; exact absurd ⟨hop, hp, hcount⟩ hcomplete
  · cases hk

/-- An echo of a frame the host sends, whatever its words, is discarded in every state (R81, R82). -/
theorem State.receive_start (hop : f.op = .start) : s.receive (.ok f) = s :=
  State.receive_unawaited (by simp [hop]) (by simp [hop])

/-- R142(c). -/
theorem State.receive_badLength_of_fatal (hwait : s.InFrameWait) (hfatal : s.badlenFatal = true) :
    s.receive (.error .badLength) = s.fail (.decodeError .badLength) := by
  rcases hwait with hp | hp <;> simp [State.receive, hp, State.undecodableInWait, hfatal]

/-- R142(b), R130. -/
theorem State.receive_badLength_of_not_fatal (h : ¬(s.InFrameWait ∧ s.badlenFatal = true)) :
    s.receive (.error .badLength) = s := by
  rcases s.receive_cases (.error .badLength) with h' | ⟨_, hd, -⟩ | ⟨_, hd, -⟩ | ⟨-, hwait, hfatal, -⟩
  · exact h'
  · cases hd
  · cases hd
  · exact absurd ⟨hwait, hfatal⟩ h

/-- Settles O43, by what the status wait takes and every other state discards. -/
theorem statusFrameIsTakenInTheStatusWaitOnly :
    Obligations.StatusFrameIsTakenInTheStatusWaitOnly := by
  intro w1 w2 w3 w4 w5 s
  refine ⟨rfl, fun hp => ?_, fun hp => ?_⟩
  · exact congrArg Host.Outcome.next (State.receive_status hp rfl)
  · exact congrArg Host.Outcome.next (State.receive_unawaited (by simp [hp]) (by simp))

/-- Settles O46, by what the completion wait takes and every other case discards. -/
theorem completeAndMidProgressFrames : Obligations.CompleteAndMidProgressFrames := by
  intro w1 w2 w3 w4 w5 s
  refine ⟨rfl, rfl, fun hp hcount => ?_, fun hother => ?_, ?_⟩
  · exact congrArg Host.Outcome.next (State.receive_complete hp rfl hcount)
  · exact congrArg Host.Outcome.next (State.receive_unawaited (by simp) (by simpa using hother))
  · exact congrArg Host.Outcome.next (State.receive_unawaited (by simp) (by simp))

/-! ### Sent frames -/

/-- Settles O44: an echo is discarded, and the guard of a sent START says that it is due. -/
theorem startFrameSentOrEchoed : Obligations.StartFrameSentOrEchoed := by
  intro w1 w2 w3 w4 w5 s
  refine ⟨?_, fun hp hctrl => ?_, fun hother => ?_⟩
  · exact congrArg Host.Outcome.next (State.receive_start rfl)
  · exact if_pos ⟨⟨hp, hctrl⟩, rfl, rfl, rfl, rfl, rfl⟩
  · exact if_neg (by rwa [and_assoc])

/-- Settles O45: an echo is discarded, and the guard of a sent ACK says that it is due. -/
theorem ackFrameSentOrEchoed : Obligations.AckFrameSentOrEchoed := by
  intro bc token s
  refine ⟨?_, fun hp hctrl => ?_, fun hother => ?_⟩
  · exact congrArg Host.Outcome.next (State.receive_start rfl)
  · exact if_pos ⟨⟨hp, hctrl⟩, rfl, rfl⟩
  · exact if_neg (by rwa [and_assoc])

/-- Block `i` of a job that holds its image (R112). -/
theorem State.HoldsImage.chunkAt_eq {i : Nat} (h : s.HoldsImage image) (hbusy : s.Busy)
    (hi : i < s.blockCount.toNat) : chunkAt i s = .next (chunkOf image i) := by
  obtain ⟨himg, hlen, hcount⟩ := h
  exact chunkAt_eq_chunkOf hbusy hi himg hlen (by rw [hcount, hlen, ceilDiv]; omega)

/-- A sent DATA of the block due is handed over exactly when it carries that block's chunk (R85, R114;
log 15). -/
theorem execData_sent_of_enabled (h : s.HoldsImage image) (hguard : s.NextBlockEnabled)
    (payload : List Byte) :
    execData .sent s.nextIndex payload s =
      if payload = chunkOf image s.nextIndex.toNat then
        .next (s.emitBlock (dataBytes s.nextIndex payload)) else .next s := by
  have hchunk := h.chunkAt_eq (by simp [hguard.1]) hguard.2.1
  simp only [execData, and_true, if_pos hguard, hchunk, notTaken]

/-- A DATA sent when no block is due, or with another index, is not taken (log 15). -/
theorem execData_sent_of_not_due {index : Word}
    (h : ¬(s.NextBlockEnabled ∧ index = s.nextIndex)) (payload : List Byte) :
    execData .sent index payload s = .next s := if_neg h

/-- Settles O47: received, a wrong length; sent, the guard and the payload say whether it is due. -/
theorem dataFrameSentOrReceived : Obligations.DataFrameSentOrReceived := by
  intro index payload image s
  refine ⟨fun hignored => ?_, fun hwait hfatal => ?_, fun himage hp hnext hslot hpayload => ?_,
    fun himage hother => ?_⟩
  · exact congrArg Host.Outcome.next (State.receive_badLength_of_not_fatal hignored)
  · exact congrArg Host.Outcome.next (State.receive_badLength_of_fatal hwait hfatal)
  · exact (execData_sent_of_enabled himage ⟨hp, hnext, hslot⟩ payload).trans (if_pos hpayload)
  · show execData .sent index payload s = .next s
    by_cases hdue : s.NextBlockEnabled ∧ index = s.nextIndex
    · obtain ⟨⟨hp, hnext, hslot⟩, rfl⟩ := hdue
      rw [execData_sent_of_enabled himage ⟨hp, hnext, hslot⟩ payload]
      exact if_neg fun hpayload => hother ⟨hp, hnext, hslot, rfl, hpayload⟩
    · exact execData_sent_of_not_due hdue payload

end Sys2Proof.Machine
end

section
/-! PROOF. Runs over a list of inputs (R120, R178): how they compose, and the run of one undisturbed job
(R86, R144; section 10 of 44_job_sequencer.md). -/

namespace Sys2Proof.Machine

variable {s t u : State} {image : List Byte}

/-! ### Runs -/

/-- `s` with the inputs `es` still to be consumed. -/
def State.withInbox (es : List Event) (s : State) : State := { s with inbox := es }

/-- The run that consumes the inputs `es`, whatever stands behind them in the inbox, takes `s` to `t`;
the inboxes of `s` and `t` themselves are not looked at. -/
def RunsTo (es : List Event) (s t : State) : Prop :=
  ∀ rest, Sys2Proof.core.run es.length (s.withInbox (es ++ rest)) = .next (t.withInbox rest)

theorem RunsTo.nil (s : State) : RunsTo [] s s := fun _ => rfl

/-- One more input at the front of the run (R120). -/
theorem RunsTo.cons {e : Event} {es : List Event}
    (hhead : ∀ rest, deliver e (s.withInbox rest) = .next (t.withInbox rest))
    (htail : RunsTo es t u) : RunsTo (e :: es) s u := by
  intro rest
  have hstep : Sys2Proof.core.step (s.withInbox (e :: (es ++ rest))) =
      .next (t.withInbox (es ++ rest)) := hhead (es ++ rest)
  simp only [List.length_cons, List.cons_append, Host.Core.run]
  rw [hstep]
  exact htail rest

theorem RunsTo.single {e : Event}
    (h : ∀ rest, deliver e (s.withInbox rest) = .next (t.withInbox rest)) :
    RunsTo [e] s t := RunsTo.cons h (.nil t)

theorem run_add {k j : Nat} {s t : State} (h : Sys2Proof.core.run k s = .next t) :
    Sys2Proof.core.run (k + j) s = Sys2Proof.core.run j t := by
  induction k generalizing s with
  | zero => cases h; rw [Nat.zero_add]
  | succ k ih =>
    rw [Nat.succ_add]
    simp only [Host.Core.run] at h ⊢
    split at h
    · exact ih h
    · cases h
    · cases h

theorem RunsTo.append {es es' : List Event} (h : RunsTo es s t) (h' : RunsTo es' t u) :
    RunsTo (es ++ es') s u := by
  intro rest
  rw [List.length_append, List.append_assoc, run_add (h (es' ++ rest))]
  exact h' rest

/-- A state with those inputs next in its inbox makes the run. -/
theorem RunsTo.run_eq {es rest : List Event} (h : RunsTo es s t) (hinbox : s.inbox = es ++ rest) :
    Sys2Proof.core.run es.length s = .next (t.withInbox rest) := by
  have hs : s.withInbox (es ++ rest) = s := by rw [← hinbox]; rfl
  rw [← h rest, hs]

/-! ### The inputs of an undisturbed job, one by one -/

theorem latch_of_legal {cfg : JobConfig} {w : Word} {ts tc tg : Nat}
    (h : LegalRequest cfg w ts tc tg) :
    latch cfg = .ok ⟨w, ts, tc, tg, copiesOperand cfg, skipOperand cfg⟩ := by
  obtain ⟨hwindow, hts, htc, htg⟩ := h
  simp only [latch, windowOperand_of_asks hwindow, hts, htc, htg]

/-- R121. -/
theorem deliver_printReq_of_legal {cfg : JobConfig} {c : Latched} (hidle : s.phase = .idle)
    (himage : imageProblem image = none) (hcfg : latch cfg = .ok c) :
    deliver (.printReq image cfg) s = .next (s.loadSession image c).enterAwaitingStatus := by
  simp [deliver, deliverPrintReq, exec, execPrintReqAccept, loadJob, hidle, himage, hcfg]

/-- R124. -/
theorem deliver_tStatus (hp : s.phase = .awaitingStatus) :
    deliver .tStatus s = .next s.enterStarting := if_pos hp

/-- R125. -/
theorem deliver_issueStart (hguard : s.IssueStartEnabled) :
    deliver (.spontaneous .issueStart) s = .next (s.issueControl (startFrame s)) := if_pos hguard

/-- R126. -/
theorem deliver_txdoneOk_of_starting (hp : s.phase = .starting) (hctrl : s.ctrlPending = true) :
    deliver .txdoneOk s = .next s.enterStreaming := by
  simp only [deliver, deliverTxdoneOk, hp, exec, execTxdoneOkInStarting, if_true, if_pos hctrl]

/-- R127. -/
theorem deliver_nextBlock (himage : s.HoldsImage image) (hguard : s.NextBlockEnabled) :
    deliver (.spontaneous .nextBlock) s =
      .next (s.emitBlock (dataBytes s.nextIndex (chunkOf image s.nextIndex.toNat))) := by
  have hchunk := himage.chunkAt_eq (by simp [hguard.1]) hguard.2.1
  simp only [deliver, spontaneousRow, exec, execNextBlock, nextBlockStep, if_pos hguard, hchunk]

/-- R128 without R131. -/
theorem deliver_txdoneOk_of_not_allSent (hp : s.phase = .streaming) (hout : 0 < s.outstanding)
    (hrest : ¬ s.returnSlot.AllSent) : deliver .txdoneOk s = .next s.returnSlot := by
  simp only [deliver, deliverTxdoneOk, hp, exec, execTxdoneOkInStreaming, if_true, if_pos hout,
    if_neg hrest]

/-- R128 with R131. -/
theorem deliver_txdoneOk_of_allSent (hp : s.phase = .streaming) (hout : 0 < s.outstanding)
    (hsent : s.returnSlot.AllSent) :
    deliver .txdoneOk s = .next s.returnSlot.enterAwaitingCompletion := by
  simp only [deliver, deliverTxdoneOk, hp, exec, execTxdoneOkInStreaming, if_true, if_pos hout,
    if_pos hsent]

/-- R132. -/
theorem deliver_completeFrame {bc w2 w3 w4 w5 : Word} (hp : s.phase = .awaitingCompletion)
    (hcount : bc = s.blockCount) :
    deliver (.rx (controlBytes .complete bc w2 w3 w4 w5)) s = .next s.enterAcknowledging := by
  rw [deliver_rx_of_decode (decode_controlBytes ..), exec_toInstr,
    State.receive_complete hp rfl hcount]

/-- R133. -/
theorem deliver_issueAck (hguard : s.IssueAckEnabled) :
    deliver (.spontaneous .issueAck) s = .next (s.issueControl (ackFrame s)) := if_pos hguard

/-- R134. -/
theorem deliver_txdoneOk_of_acknowledging (hp : s.phase = .acknowledging)
    (hctrl : s.ctrlPending = true) : deliver .txdoneOk s = .next s.enterDone := by
  simp only [deliver, deliverTxdoneOk, hp, exec, execTxdoneOkInAcknowledging, if_true, if_pos hctrl]

/-- R138. -/
theorem deliver_tGrace (hp : s.phase = .done) : deliver .tGrace s = .next s.release := if_pos hp

/-! ### The data frames -/

theorem toNat_ofNat_of_le {bc : Word} {i : Nat} (h : i ≤ bc.toNat) :
    (BitVec.ofNat 16 i).toNat = i := by
  have := bc.isLt
  rw [BitVec.toNat_ofNat, Nat.mod_eq_of_lt (by omega)]

/-- The write of a block just handed over is pending. -/
theorem pending_emitBlock (hout : s.outstanding = 0) (f : List Byte) :
    0 < (s.emitBlock f).outstanding := by
  rw [State.emitBlock_outstanding, hout]
  decide

/-- `s` with the first `i` blocks of `image` handed over and confirmed. -/
def State.withBlocksSent (image : List Byte) (i : Nat) (s : State) : State :=
  { s with nextIndex := BitVec.ofNat 16 i, tx := s.tx ++ dataFramesOf image i }

/-- A job in `Streaming` with no block handed over yet and room in the window. -/
def State.ReadyToStream (image : List Byte) (s : State) : Prop :=
  s.phase = .streaming ∧ s.HoldsImage image ∧ s.nextIndex = 0 ∧ s.outstanding = 0 ∧ 1 ≤ s.window

/-- The frame that carries block `i` of `image` (R85). -/
def blockFrame (image : List Byte) (i : Nat) : List Byte :=
  dataBytes (BitVec.ofNat 16 i) (chunkOf image i)

theorem dataFramesOf_succ (image : List Byte) (i : Nat) :
    dataFramesOf image (i + 1) = dataFramesOf image i ++ [blockFrame image i] := by
  simp [dataFramesOf, blockFrame, List.range_succ]

theorem State.withBlocksSent_zero (hindex : s.nextIndex = 0) : s.withBlocksSent image 0 = s := by
  have htx : s.tx ++ dataFramesOf image 0 = s.tx := List.append_nil _
  rw [State.withBlocksSent, htx, show BitVec.ofNat 16 0 = s.nextIndex from hindex.symm]

/-- One more block handed over and its write confirmed. -/
theorem State.withBlocksSent_succ (image : List Byte) (i : Nat) (s : State) :
    s.withBlocksSent image (i + 1) =
      ((s.withBlocksSent image i).emitBlock (blockFrame image i)).returnSlot := by
  simp [State.withBlocksSent, State.emitBlock, State.takeSlot, State.send, State.returnSlot,
    dataFramesOf_succ, BitVec.ofNat_add]

theorem State.withBlocksSent_allSent_iff {i : Nat} (hout : s.outstanding = 0)
    (hi : i ≤ s.blockCount.toNat) :
    (s.withBlocksSent image i).AllSent ↔ i = s.blockCount.toNat := by
  have hindex := toNat_ofNat_of_le hi
  constructor
  · rintro ⟨hall, -⟩
    rw [← hindex]
    exact congrArg BitVec.toNat hall
  · intro h
    exact ⟨BitVec.eq_of_toNat_eq (hindex.trans h), hout⟩

/-- Block `i` handed over (R127). -/
theorem runsTo_emitBlock {i : Nat} (h : s.ReadyToStream image) (hi : i < s.blockCount.toNat) :
    RunsTo [.spontaneous .nextBlock] (s.withBlocksSent image i)
      ((s.withBlocksSent image i).emitBlock (blockFrame image i)) := by
  obtain ⟨hp, himage, -, hout, hwindow⟩ := h
  have hindex := toNat_ofNat_of_le hi.le
  have hslot : s.outstanding < s.window := by bv_omega
  have hguard : (s.withBlocksSent image i).NextBlockEnabled :=
    ⟨hp, (hindex.trans_lt hi : (BitVec.ofNat 16 i).toNat < _), hslot⟩
  refine .single fun rest => ?_
  have hsent := deliver_nextBlock (s := (s.withBlocksSent image i).withInbox rest) himage hguard
  rw [show ((s.withBlocksSent image i).withInbox rest).nextIndex = BitVec.ofNat 16 i from rfl,
    hindex] at hsent
  exact hsent

/-- A block that is not the last, sent and confirmed: the job goes on streaming (R127, R128). -/
theorem runsTo_block {i : Nat} (h : s.ReadyToStream image) (hi : i + 1 < s.blockCount.toNat) :
    RunsTo [.spontaneous .nextBlock, .txdoneOk] (s.withBlocksSent image i)
      (s.withBlocksSent image (i + 1)) := by
  have ⟨hp, _, _, hout, _⟩ := h
  have hrest : ¬ (s.withBlocksSent image (i + 1)).AllSent := by
    rw [State.withBlocksSent_allSent_iff hout hi.le]
    exact hi.ne
  rw [State.withBlocksSent_succ] at hrest ⊢
  exact (runsTo_emitBlock h (by omega)).append <| .single fun _ =>
    deliver_txdoneOk_of_not_allSent hp (pending_emitBlock hout (blockFrame image i)) hrest

/-- The last block sent and confirmed: the job waits for its completion (R128, R131). -/
theorem runsTo_lastBlock {i : Nat} (h : s.ReadyToStream image) (hi : i + 1 = s.blockCount.toNat) :
    RunsTo [.spontaneous .nextBlock, .txdoneOk] (s.withBlocksSent image i)
      (s.withBlocksSent image (i + 1)).enterAwaitingCompletion := by
  have ⟨hp, _, _, hout, _⟩ := h
  have hsent : (s.withBlocksSent image (i + 1)).AllSent :=
    (State.withBlocksSent_allSent_iff hout hi.le).2 hi
  rw [State.withBlocksSent_succ] at hsent ⊢
  exact (runsTo_emitBlock h (by omega)).append <| .single fun _ =>
    deliver_txdoneOk_of_allSent hp (pending_emitBlock hout (blockFrame image i)) hsent

/-- The blocks before the last, each confirmed before the next. -/
theorem runsTo_blocks (h : s.ReadyToStream image) {i : Nat} (hi : i < s.blockCount.toNat) :
    RunsTo (List.replicate i [.spontaneous .nextBlock, .txdoneOk]).flatten s
      (s.withBlocksSent image i) := by
  induction i with
  | zero =>
    rw [State.withBlocksSent_zero h.2.2.1]
    exact .nil s
  | succ i ih =>
    rw [List.replicate_succ', List.flatten_append, List.flatten_singleton]
    exact (ih (by omega)).append (runsTo_block h hi)

/-- All the blocks of a job, each confirmed before the next (R86, R116, R131). -/
theorem runsTo_allBlocks {n : Nat} (h : s.ReadyToStream image) (hn : n = s.blockCount.toNat)
    (hpos : 0 < n) :
    RunsTo (List.replicate n [.spontaneous .nextBlock, .txdoneOk]).flatten s
      (s.withBlocksSent image n).enterAwaitingCompletion := by
  obtain ⟨i, rfl⟩ := Nat.exists_eq_add_of_lt hpos
  rw [Nat.zero_add] at hn ⊢
  rw [List.replicate_succ', List.flatten_append, List.flatten_singleton]
  exact (runsTo_blocks h (by omega)).append (runsTo_lastBlock h hn)

/-! ### The whole job -/

/-- `s` with the job of `image` loaded and its START confirmed. -/
def State.streamingJob (image : List Byte) (c : Latched) (s : State) : State :=
  let t := (s.loadSession image c).enterAwaitingStatus.enterStarting
  (t.issueControl (startFrame t)).enterStreaming

/-- From a request to the first block: the status wait times out and START is confirmed (R121, R124 to
R126). -/
theorem runsTo_streaming {cfg : JobConfig} {c : Latched} (hidle : s.phase = .idle)
    (himage : imageProblem image = none) (hcfg : latch cfg = .ok c) :
    RunsTo [.printReq image cfg, .tStatus, .spontaneous .issueStart, .txdoneOk] s
      (s.streamingJob image c) :=
  .cons (t := (s.loadSession image c).enterAwaitingStatus)
    (fun _ => deliver_printReq_of_legal hidle himage hcfg) <|
  .cons (t := (s.loadSession image c).enterAwaitingStatus.enterStarting)
    (fun _ => deliver_tStatus rfl) <|
  .cons (fun _ => deliver_issueStart ⟨rfl, rfl⟩) <|
  .single fun _ => deliver_txdoneOk_of_starting rfl rfl

/-- From the completion wait to the release: COMPLETE arrives, ACK is confirmed, the drain ends (R132 to
R134, R138). -/
theorem runsTo_idle {w2 w3 w4 w5 : Word} (hp : s.phase = .awaitingCompletion)
    (hctrl : s.ctrlPending = false) :
    RunsTo [.rx (controlBytes .complete s.blockCount w2 w3 w4 w5), .spontaneous .issueAck, .txdoneOk,
        .tGrace] s
      (s.enterAcknowledging.issueControl (ackFrame s)).enterDone.release :=
  .cons (t := s.enterAcknowledging) (fun _ => deliver_completeFrame hp rfl) <|
  .cons (t := s.enterAcknowledging.issueControl (ackFrame s))
    (fun _ => deliver_issueAck ⟨rfl, hctrl⟩) <|
  .cons (t := (s.enterAcknowledging.issueControl (ackFrame s)).enterDone)
    (fun _ => deliver_txdoneOk_of_acknowledging rfl rfl) <|
  .single fun _ => deliver_tGrace rfl

/-- The image, the count, the counters and the window are as `JOB_LOAD` left them. -/
theorem State.readyToStream_streamingJob {cfg : JobConfig} {c : Latched}
    (himage : imageProblem image = none) (hcfg : latch cfg = .ok c) :
    (s.streamingJob image c).ReadyToStream image :=
  ⟨rfl, ⟨rfl, rfl, blockCountOf_toNat himage⟩, rfl, rfl, latch_window_pos hcfg⟩

/-- `s` after the job of `image`: `Idle` again, with its frames on the stream and its answer given. -/
def State.afterJob (image : List Byte) (c : Latched) (s : State) : State :=
  let t := ((s.streamingJob image c).withBlocksSent image
    (blockCountOf image).toNat).enterAwaitingCompletion
  (t.enterAcknowledging.issueControl (ackFrame t)).enterDone.release

/-- The frames of the job, in order (R54, R86). -/
theorem State.afterJob_tx (image : List Byte) (c : Latched) (s : State) :
    (s.afterJob image c).tx = s.tx ++
      ([controlBytes .start (blockCountOf image) c.copies 0 0 0]
        ++ dataFramesOf image (blockCountOf image).toNat
        ++ [controlBytes .start (blockCountOf image) s.ackToken 0 0 0]) := by
  rw [← List.append_assoc, ← List.append_assoc]
  rfl

/-- The undisturbed job of an accepted request (R86, R144). -/
theorem runsTo_jobSchedule {cfg : JobConfig} {c : Latched} {w2 w3 w4 w5 : Word}
    (hidle : s.phase = .idle) (himage : imageProblem image = none) (hcfg : latch cfg = .ok c) :
    RunsTo (jobSchedule image cfg (blockCountOf image).toNat
      (controlBytes .complete (blockCountOf image) w2 w3 w4 w5)) s (s.afterJob image c) := by
  have hpos : 0 < (blockCountOf image).toNat := by
    have := (imageProblem_eq_none.1 himage).1
    rw [blockCountOf_toNat himage, ceilDiv]
    omega
  have hready : (s.streamingJob image c).ReadyToStream image :=
    State.readyToStream_streamingJob himage hcfg
  exact ((runsTo_streaming hidle himage hcfg).append (runsTo_allBlocks hready rfl hpos)).append
    (runsTo_idle rfl rfl)

theorem length_jobSchedule (image : List Byte) (cfg : JobConfig) (n : Nat) (complete : List Byte) :
    (jobSchedule image cfg n complete).length = 2 * n + 8 := by
  simp only [jobSchedule, List.length_append, List.length_flatten, List.map_replicate,
    List.sum_replicate, List.length_cons, List.length_nil, smul_eq_mul]
  omega

/-- Settles O60, by the run up to the first block, the run of the blocks and the run to the release. -/
theorem undisturbedJobRunsToCompletion : Obligations.UndisturbedJobRunsToCompletion := by
  intro image cfg w ts tc tg bc w2 w3 w4 w5 rest s hidle hpos hle hlegal hbc hinbox
  have himage := imageProblem_eq_none.2 ⟨hpos, hle⟩
  obtain rfl : bc = blockCountOf image :=
    BitVec.eq_of_toNat_eq (hbc.trans (blockCountOf_toNat himage).symm)
  have hrun := (runsTo_jobSchedule hidle himage (latch_of_legal hlegal)).run_eq hinbox
  rw [length_jobSchedule] at hrun
  exact ⟨_, hrun, rfl, rfl, State.afterJob_tx .., rfl⟩

end Sys2Proof.Machine
end

section
/-! PROOF. The four codec operations as functions (R90 to R94): what each encoder accepts and answers,
what each decoder reads from each layout, and that the one undoes the other. -/

namespace Sys2Proof

/-! ### Bytes, words and opcodes -/

theorem lo8_eq_ofNat (w : Word) : lo8 w = BitVec.ofNat 8 (w.toNat % 256) := by
  apply BitVec.eq_of_toNat_eq
  rw [lo8_toNat, BitVec.toNat_ofNat]
  omega

theorem hi8_eq_ofNat (w : Word) : hi8 w = BitVec.ofNat 8 (w.toNat / 256) := by
  apply BitVec.eq_of_toNat_eq
  rw [hi8_toNat, BitVec.toNat_ofNat]
  have := w.isLt
  omega

/-- The operands that are words, and which word each is (R63, R72). -/
theorem wordOf_eq_some {n : Nat} {w : Word} : wordOf n = some w ↔ w.toNat = n := by
  constructor
  · intro h
    by_cases hn : n < 65536
    · rw [wordOf_of_lt hn] at h
      cases h
      exact Nat.mod_eq_of_lt hn
    · rw [wordOf_of_le (by omega)] at h
      cases h
  · rintro rfl
    exact wordOf_toNat w

theorem word_toNat_le (w : Word) : w.toNat ≤ 65535 := Nat.le_of_lt_succ w.isLt

theorem exists_toNat_eq {n : Nat} (h : n ≤ 65535) : ∃ w : Word, w.toNat = n :=
  ⟨BitVec.ofNat 16 n, wordOf_eq_some.1 (wordOf_of_lt (by omega))⟩

/-- The four legal values of the opcode byte (R64). -/
theorem exists_code_eq {b : Byte} :
    (∃ op : Opcode, op.code = b) ↔ b = 0x02 ∨ b = 0x04 ∨ b = 0x06 ∨ b = 0x07 := by
  constructor
  · rintro ⟨op, rfl⟩
    cases op <;> decide
  · rintro (rfl | rfl | rfl | rfl)
    exacts [⟨.status, rfl⟩, ⟨.start, rfl⟩, ⟨.complete, rfl⟩, ⟨.midProgress, rfl⟩]

/-! ### `ENC_CTRL` and `DEC_CTRL` -/

section
variable {op : Byte} {w1 w2 w3 w4 w5 : Nat}

/-- R90 on legal operands: the control layout of R60. -/
theorem encControl_code (o : Opcode) (v1 v2 v3 v4 v5 : Word) :
    encControl o.code v1.toNat v2.toNat v3.toNat v4.toNat v5.toNat =
      .ok (controlBytes o v1 v2 v3 v4 v5) := by
  simp only [encControl, opcodeOf_code, wordOf_toNat]

/-- `ENC_CTRL` answers bytes on legal operands only. -/
theorem eq_controlBytes_of_encControl {b : List Byte} (h : encControl op w1 w2 w3 w4 w5 = .ok b) :
    ∃ (o : Opcode) (v1 v2 v3 v4 v5 : Word), op = o.code ∧ v1.toNat = w1 ∧ v2.toNat = w2 ∧
      v3.toNat = w3 ∧ v4.toNat = w4 ∧ v5.toNat = w5 ∧ b = controlBytes o v1 v2 v3 v4 v5 := by
  unfold encControl at h
  split at h
  next ho h1 h2 h3 h4 h5 =>
    cases h
    exact ⟨_, _, _, _, _, _, opcodeOf_eq_some ho, wordOf_eq_some.1 h1, wordOf_eq_some.1 h2,
      wordOf_eq_some.1 h3, wordOf_eq_some.1 h4, wordOf_eq_some.1 h5, rfl⟩
  · cases h

/-- The only error of `ENC_CTRL` (R90). -/
theorem cause_of_encControl {c : Cause} (h : encControl op w1 w2 w3 w4 w5 = .error c) :
    c = .encodingError := by
  unfold encControl at h
  split at h
  · cases h
  · exact (Except.error.inj h).symm

end

/-- R91 on the control layout of R60: `pad` may be anything (R68). -/
theorem decControl_layout (op : Opcode) (pad a1 a2 b1 b2 c1 c2 d1 d2 e1 e2 : Byte) :
    decControl [op.code, pad, a1, a2, b1, b2, c1, c2, d1, d2, e1, e2] =
      .ok ⟨op, le16 a1 a2, le16 b1 b2, le16 c1 c2, le16 d1 d2, le16 e1 e2⟩ := by
  simp [decControl, wordAt, byteAt]

/-- R67: twelve bytes whose first is no opcode. -/
theorem decControl_illegalOpcode {o : Byte} (ho : opcodeOf o = none)
    (pad a1 a2 b1 b2 c1 c2 d1 d2 e1 e2 : Byte) :
    decControl [o, pad, a1, a2, b1, b2, c1, c2, d1, d2, e1, e2] = .error .unknownOpcode := by
  simp [decControl, byteAt, ho]

theorem decControl_controlBytes (op : Opcode) (w1 w2 w3 w4 w5 : Word) :
    decControl (controlBytes op w1 w2 w3 w4 w5) = .ok ⟨op, w1, w2, w3, w4, w5⟩ := by
  simp only [controlBytes, decControl_layout, le16_lo8_hi8]

/-- What `DEC_CTRL` reads from the bytes of `ENC_CTRL` are its operands (R94 (a)). -/
theorem decControl_of_encControl {op : Byte} {w1 w2 w3 w4 w5 : Nat} {b : List Byte}
    (h : encControl op w1 w2 w3 w4 w5 = .ok b) : ∃ f, decControl b = .ok f ∧ op = f.op.code ∧
      w1 = f.w1.toNat ∧ w2 = f.w2.toNat ∧ w3 = f.w3.toNat ∧ w4 = f.w4.toNat ∧ w5 = f.w5.toNat := by
  obtain ⟨o, v1, v2, v3, v4, v5, rfl, rfl, rfl, rfl, rfl, rfl, rfl⟩ :=
    eq_controlBytes_of_encControl h
  exact ⟨_, decControl_controlBytes .., rfl, rfl, rfl, rfl, rfl, rfl⟩

/-- Twelve bytes, the first an opcode, are re-encoded with `pad` zero (R94 (c)). -/
theorem encControl_of_decControl_layout (op : Opcode) (pad a1 a2 b1 b2 c1 c2 d1 d2 e1 e2 : Byte) :
    encControl op.code (le16 a1 a2).toNat (le16 b1 b2).toNat (le16 c1 c2).toNat (le16 d1 d2).toNat
        (le16 e1 e2).toNat = .ok [op.code, pad, a1, a2, b1, b2, c1, c2, d1, d2, e1, e2]
      ↔ pad = 0 := by
  simp only [encControl_code, controlBytes, lo8_le16, hi8_le16, Except.ok.injEq, List.cons.injEq,
    true_and, and_true]
  exact eq_comm

/-! ### `ENC_DATA` and `DEC_DATA` -/

section
variable {index : Nat} {payload b : List Byte}

/-- R92 on legal operands: the data layout of R61. -/
theorem encData_toNat (w : Word) (h : payload.length = 16) :
    encData w.toNat payload = .ok (dataBytes w payload) := by
  simp [encData, h]

/-- `ENC_DATA` answers bytes on legal operands only. -/
theorem eq_dataBytes_of_encData (h : encData index payload = .ok b) :
    ∃ w : Word, w.toNat = index ∧ payload.length = 16 ∧ b = dataBytes w payload := by
  unfold encData at h
  split at h
  · cases h
  next hlen =>
    split at h
    · cases h
    next w hw =>
      cases h
      exact ⟨w, wordOf_eq_some.1 hw, not_not.1 hlen, rfl⟩

/-- The only error of `ENC_DATA` (R92). -/
theorem cause_of_encData {c : Cause} (h : encData index payload = .error c) :
    c = .encodingError := by
  unfold encData at h
  split at h
  · exact (Except.error.inj h).symm
  · split at h
    · exact (Except.error.inj h).symm
    · cases h

theorem decData_of_length_ne (h : b.length ≠ 20) : decData b = .error .badLength := if_pos h

/-- R71: both marker bytes are looked at. -/
theorem decData_illegalMarker {m0 m1 : Byte} (hm : ¬(m0 = 0x55 ∧ m1 = 0x00)) (lo hi : Byte)
    (hlen : payload.length = 16) :
    decData ([m0, m1, lo, hi] ++ payload) = .error .unknownOpcode := by
  have hm' : m0 ≠ 0x55 ∨ m1 ≠ 0x00 := not_and_or.1 hm
  simp only [decData, byteAt, List.length_append, hlen]
  exact if_pos hm'

/-- R93 on the data layout of R61. -/
theorem decData_layout (lo hi : Byte) (hlen : payload.length = 16) :
    decData ([0x55, 0x00, lo, hi] ++ payload) = .ok ⟨le16 lo hi, payload⟩ := by
  simp [decData, wordAt, byteAt, hlen]

/-- What `DEC_DATA` reads from the bytes of `ENC_DATA` are its operands (R94 (b)). -/
theorem decData_dataBytes (w : Word) (h : payload.length = 16) :
    decData (dataBytes w payload) = .ok ⟨w, payload⟩ := by
  simp only [dataBytes, decData_layout _ _ h, le16_lo8_hi8]

theorem decData_of_encData (h : encData index payload = .ok b) :
    ∃ w : Word, w.toNat = index ∧ decData b = .ok ⟨w, payload⟩ := by
  obtain ⟨w, hw, hlen, rfl⟩ := eq_dataBytes_of_encData h
  exact ⟨w, hw, decData_dataBytes w hlen⟩

end

/-! ### The round-trip laws -/

/-- R94 (e) for `ENC_CTRL`: equal bytes are read back as one frame, which holds the operands of both. -/
theorem encControl_injective {op op' : Byte} {w1 w2 w3 w4 w5 v1 v2 v3 v4 v5 : Nat} {b : List Byte}
    (h : encControl op w1 w2 w3 w4 w5 = .ok b) (h' : encControl op' v1 v2 v3 v4 v5 = .ok b) :
    op = op' ∧ w1 = v1 ∧ w2 = v2 ∧ w3 = v3 ∧ w4 = v4 ∧ w5 = v5 := by
  obtain ⟨f, hf, rfl, rfl, rfl, rfl, rfl, rfl⟩ := decControl_of_encControl h
  obtain ⟨g, hg, rfl, rfl, rfl, rfl, rfl, rfl⟩ := decControl_of_encControl h'
  obtain rfl : f = g := Except.ok.inj (hf.symm.trans hg)
  exact ⟨rfl, rfl, rfl, rfl, rfl, rfl⟩

/-- R94 (e) for `ENC_DATA`. -/
theorem encData_injective {i j : Nat} {p q b : List Byte} (h : encData i p = .ok b)
    (h' : encData j q = .ok b) : i = j ∧ p = q := by
  obtain ⟨w, rfl, hw⟩ := decData_of_encData h
  obtain ⟨v, rfl, hv⟩ := decData_of_encData h'
  cases hw.symm.trans hv
  exact ⟨rfl, rfl⟩

/-- Settles O3, by what the decoders read from the layouts and the encoders make of it. -/
theorem codecRoundTripLaws : Obligations.CodecRoundTripLaws := by
  refine ⟨fun op w1 w2 w3 w4 w5 => ⟨_, encControl_code .., decControl_controlBytes ..⟩,
    fun index payload hlen => ⟨_, encData_toNat index hlen, decData_dataBytes index hlen⟩,
    ?_, ?_, fun _ _ _ _ _ _ _ _ _ _ _ _ _ => encControl_injective, fun _ _ _ _ _ => encData_injective⟩
  · rintro b hlen ⟨op, hop⟩
    match b, hlen with
    | [o, pad, a1, a2, b1, b2, c1, c2, d1, d2, e1, e2], _ =>
      obtain rfl : o = op.code := Option.some.inj hop
      refine ⟨_, decControl_layout .., (encControl_of_decControl_layout ..).trans ?_⟩
      exact (Option.some_inj (a := pad) (b := 0)).symm
  · intro b hlen hm0 hm1
    match b, hlen with
    | m0 :: m1 :: lo :: hi :: payload, hlen =>
      have hpayload : payload.length = 16 := by simpa using hlen
      obtain rfl : m0 = 0x55 := Option.some.inj hm0
      obtain rfl : m1 = 0x00 := Option.some.inj hm1
      refine ⟨_, decData_layout lo hi hpayload, ?_⟩
      rw [encData_toNat _ hpayload, dataBytes, lo8_le16, hi8_le16]
      rfl

end Sys2Proof
end

section
/-! PROOF. The four codec operations as instructions (R90 to R93): each answers on its port and leaves
the rest of the state. -/

namespace Sys2Proof.Machine

theorem exec_encCtrl {op : Byte} {w1 w2 w3 w4 w5 : Nat} {r : Except Cause (List Byte)}
    (h : encControl op w1 w2 w3 w4 w5 = r) (s : State) :
    exec (.encCtrl op w1 w2 w3 w4 w5) s = .next (s.giveResult (encoded r)) := by
  subst h
  rfl

theorem exec_decCtrl {b : List Byte} {r : Except DecodeKind ControlFrame} (h : decControl b = r)
    (s : State) : exec (.decCtrl b) s = .next (s.giveResult (decodedControl r)) := by
  subst h
  rfl

theorem exec_encData {index : Nat} {payload : List Byte} {r : Except Cause (List Byte)}
    (h : encData index payload = r) (s : State) :
    exec (.encData index payload) s = .next (s.giveResult (encoded r)) := by
  subst h
  rfl

theorem exec_decData {b : List Byte} {r : Except DecodeKind DataFrame} (h : decData b = r)
    (s : State) : exec (.decData b) s = .next (s.giveResult (decodedData r)) := by
  subst h
  rfl

/-- Settles O4: legal operands are an opcode's code and five words; others are never encoded. -/
theorem encCtrlReturnsTheFrameOrEncodingError :
    Obligations.EncCtrlReturnsTheFrameOrEncodingError := by
  intro op w1 w2 w3 w4 w5 s
  constructor
  · rintro ⟨hop, h1, h2, h3, h4, h5⟩
    obtain ⟨o, rfl⟩ := exists_code_eq.2 hop
    obtain ⟨v1, rfl⟩ := exists_toNat_eq h1
    obtain ⟨v2, rfl⟩ := exists_toNat_eq h2
    obtain ⟨v3, rfl⟩ := exists_toNat_eq h3
    obtain ⟨v4, rfl⟩ := exists_toNat_eq h4
    obtain ⟨v5, rfl⟩ := exists_toNat_eq h5
    simp only [← lo8_eq_ofNat, ← hi8_eq_ofNat]
    exact exec_encCtrl (encControl_code ..) s
  · intro hillegal
    cases hr : encControl op w1 w2 w3 w4 w5 with
    | error c =>
      obtain rfl := cause_of_encControl hr
      exact exec_encCtrl hr s
    | ok b =>
      obtain ⟨o, v1, v2, v3, v4, v5, rfl, rfl, rfl, rfl, rfl, rfl, -⟩ :=
        eq_controlBytes_of_encControl hr
      exact absurd ⟨exists_code_eq.1 ⟨o, rfl⟩, word_toNat_le v1, word_toNat_le v2,
        word_toNat_le v3, word_toNat_le v4, word_toNat_le v5⟩ hillegal

/-- Settles O5, by what `DEC_CTRL` reads from twelve bytes. -/
theorem decCtrlReturnsTheWordsOrDecodeError : Obligations.DecCtrlReturnsTheWordsOrDecodeError := by
  intro b s
  refine ⟨fun hlen => exec_decCtrl (decControl_of_length_ne hlen) s, ?_⟩
  rintro op pad a1 a2 b1 b2 c1 c2 d1 d2 e1 e2 rfl
  constructor
  · intro hop
    exact exec_decCtrl (decControl_illegalOpcode (opcodeOf_eq_none.2 hop) ..) s
  · rintro o rfl
    exact exec_decCtrl (decControl_layout ..) s

/-- Settles O6: legal operands are a word and sixteen bytes; others are never encoded. -/
theorem encDataReturnsTheFrameOrEncodingError :
    Obligations.EncDataReturnsTheFrameOrEncodingError := by
  intro index payload s
  constructor
  · rintro ⟨hlen, hindex⟩
    obtain ⟨w, rfl⟩ := exists_toNat_eq hindex
    simp only [← lo8_eq_ofNat, ← hi8_eq_ofNat]
    exact exec_encData (encData_toNat w hlen) s
  · intro hillegal
    cases hr : encData index payload with
    | error c =>
      obtain rfl := cause_of_encData hr
      exact exec_encData hr s
    | ok b =>
      obtain ⟨w, rfl, hlen, -⟩ := eq_dataBytes_of_encData hr
      exact absurd ⟨hlen, word_toNat_le w⟩ hillegal

/-- Settles O7, by what `DEC_DATA` reads from the marker and the layout. -/
theorem decDataReturnsTheBlockOrDecodeError : Obligations.DecDataReturnsTheBlockOrDecodeError := by
  intro b s
  refine ⟨fun hlen => exec_decData (decData_of_length_ne hlen) s, ?_⟩
  rintro m0 m1 lo hi payload hlen rfl
  constructor
  · intro hm
    exact exec_decData (decData_illegalMarker hm lo hi hlen) s
  · rintro ⟨rfl, rfl⟩
    exact exec_decData (decData_layout lo hi hlen) s

end Sys2Proof.Machine
end

section
/-! PROOF. The flow controller (R100 to R103): what its two operations do to `OUTSTANDING`, and the
bound by `WINDOW`, which every move of a live session keeps. -/

namespace Sys2Proof.Machine

variable {s t : State}

/-! ### `ACQUIRE` and `RELEASE` -/

theorem execAcquire_of_slotFree (hbusy : s.Busy) (hslot : s.SlotFree) :
    execAcquire s = .next s.takeSlot := by
  rw [execAcquire, if_neg hbusy, if_pos hslot]

theorem execAcquire_of_not_slotFree (hbusy : s.Busy) (hslot : ¬ s.SlotFree) :
    execAcquire s = .next s := by
  rw [execAcquire, if_neg hbusy, if_neg hslot, notTaken]

theorem execRelease_of_pos (hout : 0 < s.outstanding) : execRelease s = .next s.returnSlot :=
  if_pos hout

theorem execRelease_of_zero (hout : s.outstanding = 0) :
    execRelease s = .refused .releaseUnderflow :=
  if_neg (by simp [hout])

/-! ### The counter neither overflows nor passes its bounds (R106) -/

theorem State.SlotFree.toNat_takeSlot (h : s.SlotFree) :
    s.takeSlot.outstanding.toNat = s.outstanding.toNat + 1 := by
  rw [State.takeSlot_outstanding]
  bv_omega

theorem State.SlotFree.takeSlot_le_window (h : s.SlotFree) :
    s.takeSlot.outstanding ≤ s.takeSlot.window := by
  rw [State.takeSlot_outstanding, State.takeSlot_window]
  bv_omega

theorem toNat_returnSlot (hout : 0 < s.outstanding) :
    s.returnSlot.outstanding.toNat + 1 = s.outstanding.toNat := by
  rw [State.returnSlot_outstanding]
  bv_omega

theorem returnSlot_le_window (h : s.outstanding ≤ s.window) (hout : 0 < s.outstanding) :
    s.returnSlot.outstanding ≤ s.returnSlot.window := by
  rw [State.returnSlot_outstanding, State.returnSlot_window]
  bv_omega

theorem retireWrite_le_window (h : s.outstanding ≤ s.window) (hpending : s.WritePending) :
    s.retireWrite.outstanding ≤ s.retireWrite.window := by
  rcases s.retireWrite_cases hpending with ⟨-, hr⟩ | ⟨-, hout, hr⟩ <;> rw [hr]
  · exact h
  · exact returnSlot_le_window h hout

/-- Settles O11, by whether a slot is free. -/
theorem acquireTakesASlotBelowTheWindow : Obligations.AcquireTakesASlotBelowTheWindow := by
  intro s hbusy
  refine ⟨fun hslot => ?_, execAcquire_of_not_slotFree hbusy⟩
  exact ⟨execAcquire_of_slotFree hbusy hslot, State.SlotFree.toNat_takeSlot hslot,
    State.SlotFree.takeSlot_le_window hslot⟩

/-- Settles O12, by whether a data write is outstanding. -/
theorem releaseReturnsASlotOrIsRefusedAtZero : Obligations.ReleaseReturnsASlotOrIsRefusedAtZero := by
  intro s
  exact ⟨fun hout => ⟨execRelease_of_pos hout, toNat_returnSlot hout⟩, execRelease_of_zero⟩

/-! ### The bound (R103) -/

/-- R103 as it stands while a session is live; `WINDOW` is unspecified in `Idle`. -/
def State.WithinWindow (s : State) : Prop := s.Busy → s.outstanding ≤ s.window

theorem State.Inv.outstanding_le_window (h : s.Inv) : s.outstanding ≤ s.window := by
  by_cases hidle : s.phase = .idle
  · rw [(h.no_session hidle).outstanding_zero]
    exact Nat.zero_le _
  · exact (h.bounds hidle).outstanding_le_window

/-- `ACQUIRE` under its guard, `RELEASE` above zero and `JOB_LOAD` are all that writes `OUTSTANDING`
in a session (R105); the two ways out of a session end in `Idle`. -/
theorem Moved.keeps_withinWindow {e : Event} (h : Moved s e t) (hs : s.WithinWindow) :
    t.WithinWindow := by
  cases h with
  | same | returned | rejected | inProgress | startIssued | ackIssued => exact hs
  | accepted => exact fun _ => Nat.zero_le _
  | statusTaken _ _ hp | statusSkipped hp | statusTimedOut hp | startConfirmed hp
  | completed _ _ hp | ackConfirmed hp | timedOut hp => exact fun _ => hs (by simp [hp])
  | lengthFatal _ hwait => exact fun _ => hs (by rcases hwait with hp | hp <;> simp [hp])
  | cancelled hp => exact fun _ => hs hp.busy
  | blockEmitted hguard => exact fun _ => State.SlotFree.takeSlot_le_window hguard.2.2
  | slotReturned hp hout | allSent hp hout =>
    exact fun _ => returnSlot_le_window (hs (by simp [hp])) hout
  | writeFailed _ hp hpending =>
    have hbusy : s.Busy := by rcases hp with hp | hp | hp <;> simp [hp]
    exact fun _ => retireWrite_le_window (hs hbusy) hpending
  | okRetired hp hpending | errRetired _ hp hpending =>
    exact fun _ => retireWrite_le_window (hs (by simp [hp])) hpending
  | drained | released => exact fun hbusy => absurd rfl hbusy

/-- Settles O13: the invariant holds it, and every move of a step keeps it. -/
theorem outstandingNeverExceedsTheWindow : Obligations.OutstandingNeverExceedsTheWindow := by
  refine ⟨fun s hs => hs.outstanding_le_window, fun s t hs hstep => ?_⟩
  rcases step_moved hstep with ⟨-, rfl⟩ | ⟨e, rest, -, hmoved⟩
  · exact hs
  · exact hmoved.keeps_withinWindow hs

end Sys2Proof.Machine
end

section
/-! PROOF. Job load (R110, R111): what `JOB_LOAD` answers for each image, and the block count of an
accepted one. -/

namespace Sys2Proof.Machine

variable {image : List Byte} {cfg : JobConfig} {s t : State}

/-! ### What `JOB_LOAD` answers -/

theorem execJobLoad_of_problem {c : Cause} (hidle : s.phase = .idle)
    (himage : imageProblem image = some c) :
    execJobLoad image cfg s = .next (s.giveResult (.error c)) := by
  simp only [execJobLoad, if_pos hidle, loadJob, himage]

theorem execJobLoad_of_latch {c : Latched} (hidle : s.phase = .idle)
    (himage : imageProblem image = none) (hcfg : latch cfg = .ok c) :
    execJobLoad image cfg s = .next (s.loadSession image c) := by
  simp only [execJobLoad, if_pos hidle, loadJob, himage, hcfg]

theorem execJobLoad_of_busy (hbusy : s.Busy) :
    execJobLoad image cfg s = .next (s.giveResult (.error .jobInProgress)) := if_neg hbusy

/-- The registers that `JOB_LOAD` writes are those of R110, from the operands the request names. -/
theorem sessionLoaded_loadSession (image : List Byte) (cfg : JobConfig) (w : Word) (ts tc tg : Nat)
    (s : State) : SessionLoaded image cfg w ts tc tg s
      (s.loadSession image ⟨w, ts, tc, tg, copiesOperand cfg, skipOperand cfg⟩) :=
  ⟨freeCaps s.freeCount, s.freeCount + 5, rfl⟩

/-- Settles O14, by `STATE` and the length of the image. -/
theorem jobLoadInitialisesTheSessionOrRaises : Obligations.JobLoadInitialisesTheSessionOrRaises := by
  intro image cfg s
  refine ⟨fun hidle hempty => ?_, fun hidle hlarge => ?_, fun hidle hpos hle w ts tc tg hlegal => ?_,
    fun hbusy => execJobLoad_of_busy hbusy⟩
  · exact execJobLoad_of_problem hidle (imageProblem_eq_empty.2 hempty)
  · exact execJobLoad_of_problem hidle (imageProblem_eq_tooLarge.2 hlarge)
  · exact ⟨_, execJobLoad_of_latch hidle (imageProblem_eq_none.2 ⟨hpos, hle⟩) (latch_of_legal hlegal),
      sessionLoaded_loadSession image cfg w ts tc tg s⟩

/-! ### The block count -/

/-- Everything an accept row run in `Idle` can answer: the loaded session, or the unchanged state for an
image that the reject row answers (log 24). -/
theorem execPrintReqAccept_next (hidle : s.phase = .idle)
    (h : execPrintReqAccept image cfg s = .next t) :
    (∃ c, imageProblem image = none ∧ t = (s.loadSession image c).enterAwaitingStatus) ∨ t = s := by
  rcases loadJob_cases image cfg s with ⟨_, -, hload⟩ | ⟨_, -, -, hload⟩ | ⟨c, himage, -, hload⟩ <;>
    simp only [execPrintReqAccept, if_pos hidle, hload, notTaken] at h <;> cases h
  · exact .inr rfl
  · exact .inl ⟨c, himage, rfl⟩

/-- The two forms in which R111 gives the ceiling. -/
theorem ceilDiv_sixteen_eq (l : Nat) :
    ceilDiv l 16 = l / 16 + (if l % 16 ≠ 0 then 1 else 0) := by
  unfold ceilDiv
  split <;> omega

/-- Settles O15: the count `JOB_LOAD` writes fits its register, for every length it accepts. -/
theorem blockCountIsTheCeilingOfLengthOverSixteen :
    Obligations.BlockCountIsTheCeilingOfLengthOverSixteen := by
  intro image cfg s t hidle hexec hphase
  rcases execPrintReqAccept_next hidle hexec with ⟨c, himage, rfl⟩ | rfl
  · have hcount : (blockCountOf image).toNat = (image.length + 15) / 16 := blockCountOf_toNat himage
    obtain ⟨hpos, hle⟩ := imageProblem_eq_none.1 himage
    rw [State.enterAwaitingStatus_blockCount, State.loadSession_blockCount]
    refine ⟨hcount, hcount.trans (ceilDiv_sixteen_eq image.length), ?_, ?_⟩ <;> omega
  · cases hidle.symm.trans hphase

end Sys2Proof.Machine
end

section
/-! PROOF. The chunker (R112, R113): which slice of the image a chunk is, and the chunks of a job put
together. -/

namespace Sys2Proof.Machine

variable {image : List Byte} {s : State}

/-! ### One chunk -/

/-- The slice and the padding of a chunk, counted as R112 counts them. -/
theorem chunkOf_eq (image : List Byte) (i : Nat) :
    chunkOf image i = (image.drop (16 * i)).take (min 16 (image.length - 16 * i)) ++
      zeros (16 - min 16 (image.length - 16 * i)) := by
  simp only [chunkOf, List.length_take, List.length_drop]
  rw [List.take_eq_take_min, List.length_drop]

theorem execChunk_of_image {i : Nat} (h : s.HoldsImage image) (hbusy : s.Busy)
    (hi : i < s.blockCount.toNat) :
    execChunk i s = .next (s.giveResult (.bytes (chunkOf image i))) := by
  simp only [execChunk, h.chunkAt_eq hbusy hi]

theorem execChunk_past_count {i : Nat} (hbusy : s.Busy) (hi : s.blockCount.toNat ≤ i) :
    execChunk i s = .refused (.chunkOutOfRange i) := by
  simp only [execChunk, chunkAt, if_neg hbusy, if_neg (Nat.not_lt.2 hi)]

/-- Settles O16: a block below `BLOCK_COUNT` starts inside the image, and only the last can end past
it. -/
theorem chunkReturnsTheZeroPaddedSlice : Obligations.ChunkReturnsTheZeroPaddedSlice := by
  intro image i s hbusy himage
  refine ⟨fun hi => ⟨?_, ?_⟩, execChunk_past_count hbusy⟩
  · show execChunk i s = _
    rw [execChunk_of_image himage hbusy hi, chunkOf_eq]
    rfl
  · obtain ⟨-, -, hcount⟩ := himage
    omega

/-! ### The chunks put together -/

/-- The first `n` chunks are the first `16 n` bytes of the image, padded where the last of them ends
past it. -/
theorem flatten_chunks (image : List Byte) {n : Nat} (hn : 16 * n ≤ image.length + 15) :
    ((List.range n).map (chunkOf image)).flatten =
      image.take (16 * n) ++ zeros (16 * n - image.length) := by
  induction n with
  | zero => simp [zeros]
  | succ n ih =>
    have hfull : 16 * n - image.length = 0 := by omega
    have hpad : 16 - min 16 (image.length - 16 * n) = 16 * (n + 1) - image.length := by omega
    rw [List.range_succ, List.map_append, List.flatten_append, ih (by omega), hfull, Nat.mul_succ,
      List.take_add]
    simp [chunkOf, zeros, hpad, Nat.mul_succ]

/-- Settles O17: the last chunk ends at or past the end of the image, by less than a block. -/
theorem chunksConcatenateToThePaddedImage : Obligations.ChunksConcatenateToThePaddedImage := by
  intro image s hbusy himage
  have hcount : s.blockCount.toNat = (image.length + 15) / 16 := himage.2.2
  have hcovers : image.length ≤ 16 * s.blockCount.toNat := by omega
  refine ⟨(List.range s.blockCount.toNat).map (chunkOf image), by simp, fun i c hc => ?_, ?_, hcovers,
    by omega⟩
  · obtain ⟨hi, rfl⟩ : i < s.blockCount.toNat ∧ chunkOf image i = c := by
      simpa [List.getElem?_range, List.getElem?_eq_some_iff] using hc
    exact himage.chunkAt_eq hbusy hi
  · rw [flatten_chunks image (by omega), List.take_of_length_le hcovers]
    rfl

end Sys2Proof.Machine
end

section
/-! PROOF. The block counter (R114 to R116): `NEXT_BLOCK` in one step, and `NEXT_INDEX` moved only with
its data frame. -/

namespace Sys2Proof.Machine

variable {image : List Byte} {s t : State}

/-! ### `NEXT_BLOCK` -/

/-- Below `BLOCK_COUNT` the index increments without carry (R115). -/
theorem State.NextBlockEnabled.toNat_index_add_one (h : s.NextBlockEnabled) :
    (s.nextIndex + 1).toNat = s.nextIndex.toNat + 1 := by
  obtain ⟨-, hnext, -⟩ := h
  bv_omega

theorem State.NextBlockEnabled.index_add_one_le_count (h : s.NextBlockEnabled) :
    s.nextIndex + 1 ≤ s.blockCount := by
  obtain ⟨-, hnext, -⟩ := h
  bv_omega

/-- Settles O18: the operation and the sequencer's step are the one step of R114, and the guard bounds
both counters. -/
theorem nextBlockSendsTheBlockAndAdvances : Obligations.NextBlockSendsTheBlockAndAdvances := by
  intro image s himage hp hnext hslot
  have hguard : s.NextBlockEnabled := ⟨hp, hnext, hslot⟩
  have hstep : nextBlockStep s =
      .next (s.emitBlock (dataBytes s.nextIndex (chunkOf image s.nextIndex.toNat))) :=
    deliver_nextBlock himage hguard
  exact ⟨hstep, hstep, hguard.toNat_index_add_one, hguard.index_add_one_le_count,
    State.SlotFree.toNat_takeSlot hslot⟩

/-! ### The index and its frame -/

/-- What R115 and R116 say of a step from `s` to `t`: the index rests and no data frame goes out, or it
moves by one together with the frame that carries it. -/
def IndexFollowsData (s t : State) : Prop :=
  (t.nextIndex = s.nextIndex ∧ ∀ f, t.tx = s.tx ++ [f] → f.length = 12) ∨
    (t.nextIndex.toNat = s.nextIndex.toNat + 1 ∧ t.nextIndex ≤ t.blockCount ∧
      ∃ payload, payload.length = 16 ∧ t.tx = s.tx ++ [dataBytes s.nextIndex payload])

theorem IndexFollowsData.of_silent (hindex : t.nextIndex = s.nextIndex) (htx : t.tx = s.tx) :
    IndexFollowsData s t :=
  .inl ⟨hindex, fun f hf => by simp [htx] at hf⟩

theorem indexFollowsData_issueControl {f : List Byte} (hlen : f.length = 12) :
    IndexFollowsData s (s.issueControl f) := by
  refine .inl ⟨rfl, fun g hg => ?_⟩
  obtain rfl : f = g := by simpa using hg
  exact hlen

theorem indexFollowsData_emitBlock {p : List Byte} (hguard : s.NextBlockEnabled)
    (hchunk : chunkAt s.nextIndex.toNat s = .next p) :
    IndexFollowsData s (s.emitBlock (dataBytes s.nextIndex p)) := by
  obtain ⟨-, -, hlen, -⟩ := chunkAt_next hchunk
  exact .inr ⟨hguard.toNat_index_add_one, hguard.index_add_one_le_count, p, hlen, rfl⟩

theorem retireWrite_nextIndex (s : State) : s.retireWrite.nextIndex = s.nextIndex := by
  unfold State.retireWrite
  split <;> rfl

/-- `NEXT_BLOCK` is all that moves the index inside a session; START and ACK are the other frames. -/
theorem Moved.indexFollowsData {e : Event} (h : Moved s e t) (hbusy : s.Busy) (hstays : t.Busy) :
    IndexFollowsData s t := by
  cases h with
  | accepted _ _ _ hidle => exact absurd hidle hbusy
  | drained | released => exact absurd rfl hstays
  | blockEmitted hguard p hchunk => exact indexFollowsData_emitBlock hguard hchunk
  | startIssued | ackIssued => exact indexFollowsData_issueControl rfl
  | writeFailed | okRetired | errRetired =>
    exact .of_silent (retireWrite_nextIndex s) (retireWrite_tx s)
  | _ => exact .of_silent rfl rfl

/-- Settles O19, by the moves of a step. -/
theorem indexAdvancesOnceForEachDataFrame : Obligations.IndexAdvancesOnceForEachDataFrame := by
  intro s t _ hbusy hstep hstays
  rcases step_moved hstep with ⟨-, rfl⟩ | ⟨e, rest, -, hmoved⟩
  · exact IndexFollowsData.of_silent rfl rfl
  · exact hmoved.indexFollowsData hbusy hstays

end Sys2Proof.Machine
end

section
/-! PROOF. The row an input runs (R143): the table's cell for a print request, a `txdone(ok)` and a
notification in each state. -/

namespace Sys2Proof.Machine

variable {s : State} {b : List Byte} {f : ControlFrame} {d : Except DecodeKind ControlFrame}
  {image : List Byte} {cfg : JobConfig}

/-! ### The classification of a notification (R95) -/

theorem isStatus_eq_true : isStatus d = true ↔ ∃ f, d = .ok f ∧ f.op = .status := by
  cases d <;> simp [isStatus]

theorem isCompleteFor_eq_true {bc : Word} :
    isCompleteFor d bc = true ↔ ∃ f, d = .ok f ∧ f.op = .complete ∧ f.w1 = bc := by
  cases d <;> simp [isCompleteFor]

theorem undecodable_eq_true : undecodable d = true ↔ ∃ k, d = .error k := by
  cases d <;> simp [undecodable]

theorem undecodable_eq_false : undecodable d = false ↔ ∃ f, d = .ok f := by
  cases d <;> simp [undecodable]

theorem isStatus_ok_eq_false : isStatus (.ok f) = false ↔ f.op ≠ .status := by simp [isStatus]

theorem isCompleteFor_ok_eq_false {bc : Word} :
    isCompleteFor (.ok f) bc = false ↔ ¬(f.op = .complete ∧ f.w1 = bc) := by
  simp [isCompleteFor]

/-! ### The rows of a notification -/

/-- R123. -/
theorem execRxStatus_of_status (hp : s.phase = .awaitingStatus) (hf : decControl b = .ok f)
    (hop : f.op = .status) : execRxStatus b s = .next (s.latchCaps f).enterStarting := by
  simp only [execRxStatus, if_pos hp, hf, if_pos hop]

theorem execRxStatus_of_unawaited
    (h : s.phase ≠ .awaitingStatus ∨ isStatus (decControl b) = false) :
    execRxStatus b s = .next s := by
  unfold execRxStatus
  split
  next hp =>
    have hother := h.resolve_left (not_not.2 hp)
    split
    next f hf => exact if_neg (isStatus_ok_eq_false.1 (hf ▸ hother))
    next => rfl
  next => rfl

/-- R132. -/
theorem execRxCompleteMatch_of_match (hp : s.phase = .awaitingCompletion)
    (hmatch : isCompleteFor (decControl b) s.blockCount = true) :
    execRxCompleteMatch b s = .next s.enterAcknowledging := if_pos ⟨hp, hmatch⟩

theorem execRxCompleteMatch_of_unawaited
    (h : s.phase ≠ .awaitingCompletion ∨ isCompleteFor (decControl b) s.blockCount = false) :
    execRxCompleteMatch b s = .next s :=
  if_neg fun ⟨hp, hmatch⟩ => h.elim (· hp) (by simp [hmatch])

/-- R142. -/
theorem execRxUndecodableInWait_of_error {k : DecodeKind} (hwait : s.InFrameWait)
    (hk : decControl b = .error k) :
    execRxUndecodableInWait b s = .next (s.undecodableInWait k) := by
  simp only [execRxUndecodableInWait, if_pos hwait, hk]

/-! ### A notification delivered -/

theorem State.receive_error {k : DecodeKind} (hwait : s.InFrameWait) :
    s.receive (.error k) = s.undecodableInWait k := by
  rcases hwait with hp | hp <;> simp only [State.receive, hp]

theorem deliver_rx_eq (b : List Byte) (s : State) :
    deliver (.rx b) s = .next (s.receive (decControl b)) := deliverRx_eq b s

theorem deliver_rx_of_not_wait (h : ¬ s.InFrameWait) (b : List Byte) :
    deliver (.rx b) s = .next s := by
  rw [deliver_rx_eq, s.receive_of_not_wait _ h]

theorem deliver_rx_of_unawaited (hf : decControl b = .ok f)
    (hstatus : ¬(f.op = .status ∧ s.phase = .awaitingStatus))
    (hcomplete : ¬(f.op = .complete ∧ s.phase = .awaitingCompletion ∧ f.w1 = s.blockCount)) :
    deliver (.rx b) s = .next s := by
  rw [deliver_rx_eq, hf, State.receive_unawaited hstatus hcomplete]

theorem deliver_rx_undecodable {k : DecodeKind} (hwait : s.InFrameWait)
    (hk : decControl b = .error k) : deliver (.rx b) s = exec (.rxUndecodableInWait b) s := by
  rw [deliver_rx_eq, hk, State.receive_error hwait]
  exact (execRxUndecodableInWait_of_error hwait hk).symm

/-- Settles O10, by what `DEC_CTRL` reads from the notification. -/
theorem notificationRunsTheRowOfTheTable : Obligations.NotificationRunsTheRowOfTheTable := by
  intro b s
  refine ⟨fun hp hstatus => ?_, fun hp hother hok => ?_, fun hwait herror => ?_,
    fun hp hmatch => ?_, fun hp hother hok => ?_, fun hp => ?_, fun hp => ?_⟩
  · obtain ⟨f, hf, hop⟩ := isStatus_eq_true.1 hstatus
    rw [deliver_rx_eq, hf, State.receive_status hp hop]
    exact (execRxStatus_of_status hp hf hop).symm
  · obtain ⟨f, hf⟩ := undecodable_eq_false.1 hok
    rw [hf, isStatus_ok_eq_false] at hother
    exact deliver_rx_of_unawaited hf (by simp [hother]) (by simp [hp])
  · obtain ⟨k, hk⟩ := undecodable_eq_true.1 herror
    exact deliver_rx_undecodable hwait hk
  · obtain ⟨f, hf, hop, hcount⟩ := isCompleteFor_eq_true.1 hmatch
    rw [deliver_rx_eq, hf, State.receive_complete hp hop hcount]
    exact (execRxCompleteMatch_of_match hp hmatch).symm
  · obtain ⟨f, hf⟩ := undecodable_eq_false.1 hok
    rw [hf, isCompleteFor_ok_eq_false] at hother
    exact deliver_rx_of_unawaited hf (by simp [hp]) (by simpa [hp] using hother)
  · exact deliver_rx_of_not_wait (by simp [hp]) b
  · refine deliver_rx_of_not_wait ?_ b
    rcases hp with hp | hp | hp | hp | hp <;> simp [hp]

/-! ### The rows of a print request and of `txdone(ok)` -/

theorem imageProblem_isSome :
    (imageProblem image).isSome = true ↔ image.length = 0 ∨ 1048560 < image.length := by
  rw [Option.isSome_iff_ne_none, ne_eq, imageProblem_eq_none]
  omega

theorem deliver_printReq_acceptRow (hidle : s.phase = .idle) (hpos : 1 ≤ image.length)
    (hle : image.length ≤ 1048560) :
    deliver (.printReq image cfg) s = exec (.printReqAccept image cfg) s := by
  refine if_neg ?_
  rw [imageProblem_isSome]
  rintro (hbusy | hempty | hlarge)
  · exact hbusy hidle
  · omega
  · omega

theorem deliver_printReq_rejectRow
    (h : s.phase ≠ .idle ∨ image.length = 0 ∨ 1048560 < image.length) :
    deliver (.printReq image cfg) s = exec (.printReqReject image cfg) s :=
  if_pos (h.imp_right imageProblem_isSome.2)

theorem deliver_txdoneOk_startingRow (hp : s.phase = .starting) :
    deliver .txdoneOk s = exec .txdoneOkInStarting s := by
  simp only [deliver, deliverTxdoneOk, hp]

theorem deliver_txdoneOk_streamingRow (hp : s.phase = .streaming) :
    deliver .txdoneOk s = exec .txdoneOkInStreaming s := by
  simp only [deliver, deliverTxdoneOk, hp]

theorem deliver_txdoneOk_acknowledgingRow (hp : s.phase = .acknowledging) :
    deliver .txdoneOk s = exec .txdoneOkInAcknowledging s := by
  simp only [deliver, deliverTxdoneOk, hp]

/-- Settles O9: the head of the inbox is delivered, and delivered it runs its row. -/
theorem stepRunsTheRowOfEachEvent : Obligations.StepRunsTheRowOfEachEvent := by
  intro s rest
  refine ⟨fun image cfg h => ⟨fun hidle hpos hle => ?_, fun hreject => ?_⟩,
    fun h => ⟨fun hp => ?_, fun hp => ?_, fun hp => ?_⟩,
    fun _ => step_of_inbox_cons, step_of_inbox_cons, step_of_inbox_cons, step_of_inbox_cons,
    step_of_inbox_cons, step_of_inbox_cons, step_of_inbox_cons, step_of_inbox_cons,
    step_of_inbox_cons, step_of_inbox_cons, step_of_inbox_cons,
    fun _ _ _ _ _ _ => step_of_inbox_cons, fun _ => step_of_inbox_cons,
    fun _ _ => step_of_inbox_cons, fun _ => step_of_inbox_cons⟩
  · exact (step_of_inbox_cons h).trans (deliver_printReq_acceptRow hidle hpos hle)
  · exact (step_of_inbox_cons h).trans (deliver_printReq_rejectRow hreject)
  · exact (step_of_inbox_cons h).trans (deliver_txdoneOk_startingRow hp)
  · exact (step_of_inbox_cons h).trans (deliver_txdoneOk_streamingRow hp)
  · exact (step_of_inbox_cons h).trans (deliver_txdoneOk_acknowledgingRow hp)

end Sys2Proof.Machine
end

section
/-! PROOF. Rows run outside their guard (R100, R143; log 2): the state is unchanged. -/

namespace Sys2Proof.Machine

variable {s : State}

theorem execTStatus_of_stale (h : s.phase ≠ .awaitingStatus) : execTStatus s = .next s := if_neg h

theorem execTComplete_of_stale (h : s.phase ≠ .awaitingCompletion) :
    execTComplete s = .next s := if_neg h

theorem execTGrace_of_stale (h : s.phase ≠ .done) : execTGrace s = .next s := if_neg h

theorem execSkipStatus_of_not_enabled (h : ¬(s.phase = .awaitingStatus ∧ s.skipStatus = true)) :
    execSkipStatus s = .next s := if_neg h

theorem execIssueStart_of_not_enabled (h : ¬ s.IssueStartEnabled) :
    execIssueStart s = .next s := if_neg h

theorem nextBlockStep_of_not_enabled (h : ¬ s.NextBlockEnabled) :
    nextBlockStep s = .next s := if_neg h

theorem execIssueAck_of_not_enabled (h : ¬ s.IssueAckEnabled) :
    execIssueAck s = .next s := if_neg h

theorem execReleaseSession_of_not_enabled (h : ¬ s.ReleaseEnabled) :
    execReleaseSession s = .next s := if_neg h

theorem execTxdoneOkInStarting_elsewhere (h : s.phase ≠ .starting) :
    execTxdoneOkInStarting s = .next s := if_neg h

theorem execTxdoneOkInStreaming_elsewhere (h : s.phase ≠ .streaming) :
    execTxdoneOkInStreaming s = .next s := if_neg h

theorem execTxdoneOkInAcknowledging_elsewhere (h : s.phase ≠ .acknowledging) :
    execTxdoneOkInAcknowledging s = .next s := if_neg h

/-- Settles O42, row by row. -/
theorem stepOutsideItsGuardChangesNothing : Obligations.StepOutsideItsGuardChangesNothing :=
  fun _ => ⟨execTStatus_of_stale, execTComplete_of_stale, execTGrace_of_stale,
    execSkipStatus_of_not_enabled, execIssueStart_of_not_enabled,
    fun h => ⟨nextBlockStep_of_not_enabled h, nextBlockStep_of_not_enabled h⟩,
    execIssueAck_of_not_enabled, execReleaseSession_of_not_enabled,
    execTxdoneOkInStarting_elsewhere, execTxdoneOkInStreaming_elsewhere,
    execTxdoneOkInAcknowledging_elsewhere, fun _ => execRxStatus_of_unawaited,
    fun _ => execRxCompleteMatch_of_unawaited⟩

end Sys2Proof.Machine
end

section
/-! PROOF. The print request (R121, R122): the session an accepted one makes, the answer to a rejected
one. -/

namespace Sys2Proof.Machine

variable {image : List Byte} {cfg : JobConfig} {s : State}

/-- Settles O20: the accept row is the request delivered, and `JOB_LOAD` initialises the registers. -/
theorem acceptedRequestCreatesTheSession : Obligations.AcceptedRequestCreatesTheSession := by
  intro image cfg w ts tc tg s hidle hpos hle hlegal
  have himage := imageProblem_eq_none.2 ⟨hpos, hle⟩
  exact ⟨_, (deliver_printReq_acceptRow hidle hpos hle).symm.trans
      (deliver_printReq_of_legal hidle himage (latch_of_legal hlegal)),
    sessionLoaded_loadSession image cfg w ts tc tg s.enterAwaitingStatus⟩

/-- R122(a). -/
theorem execPrintReqReject_of_problem {c : Cause} (hidle : s.phase = .idle)
    (himage : imageProblem image = some c) :
    execPrintReqReject image cfg s = .next (s.respond (.err c)) := by
  simp only [execPrintReqReject, if_pos hidle, loadJob, himage]

/-- R122(b). -/
theorem execPrintReqReject_of_busy (hbusy : s.Busy) :
    execPrintReqReject image cfg s = .next (s.respond (.err .jobInProgress)) := if_neg hbusy

/-- Settles O21, by `STATE` and the length of the image. -/
theorem rejectedRequestOnlyAnswersItsCause : Obligations.RejectedRequestOnlyAnswersItsCause := by
  intro image cfg s
  refine ⟨fun hidle hempty => ?_, fun hidle hlarge => ?_, execPrintReqReject_of_busy⟩
  · exact execPrintReqReject_of_problem hidle (imageProblem_eq_empty.2 hempty)
  · exact execPrintReqReject_of_problem hidle (imageProblem_eq_tooLarge.2 hlarge)

/-- The session just created holds its image and has handed over none of its frames (R54). -/
theorem framesSent_accepted (image : List Byte) (c : Latched) (s : State) :
    (s.loadSession image c).enterAwaitingStatus.FramesSent s.tx image :=
  ⟨rfl, rfl, (List.append_nil s.tx).symm⟩

/-- Settles O51: of the moves of a request, the acceptance alone leaves `Idle`. -/
theorem newSessionHasSentNothing : Obligations.NewSessionHasSentNothing := by
  intro s t image cfg rest hidle hinbox hstep hbusy
  rw [step_of_inbox_cons hinbox] at hstep
  cases deliver_moved hstep with
  | same | rejected => exact absurd hidle hbusy
  | inProgress _ _ hnotIdle => exact absurd hidle hnotIdle
  | accepted _ _ c => exact ⟨framesSent_accepted image c { s with inbox := rest }, rfl⟩

end Sys2Proof.Machine
end

section
/-! PROOF. The status wait and the Start frame (R123 to R126), and the data confirmations (R128,
R131). -/

namespace Sys2Proof.Machine

variable {s : State}

/-! ### The status wait -/

/-- Settles O23, by the row of an awaited Status frame. -/
theorem statusNotificationEndsTheStatusWait : Obligations.StatusNotificationEndsTheStatusWait :=
  fun _ _ _ _ _ _ _ hp hf => execRxStatus_of_status hp hf rfl

/-- R124. -/
theorem execSkipStatus_of_enabled (hp : s.phase = .awaitingStatus) (hskip : s.skipStatus = true) :
    execSkipStatus s = .next s.enterStarting := if_pos ⟨hp, hskip⟩

/-- Settles O24: in `Starting`, where either order ends, the other of the two is without effect. -/
theorem statusWaitEndsWithoutAStatusFrame : Obligations.StatusWaitEndsWithoutAStatusFrame := by
  refine ⟨fun _ => deliver_tStatus, fun _ => execSkipStatus_of_enabled,
    fun b s hp hskip hstatus => ?_⟩
  obtain ⟨f, hf, hop⟩ := isStatus_eq_true.1 hstatus
  have hlate : deliver (.rx b) s.enterStarting = .next s.enterStarting :=
    deliver_rx_of_not_wait (by simp) b
  have hskipLate : execSkipStatus (s.latchCaps f).enterStarting =
      .next (s.latchCaps f).enterStarting := execSkipStatus_of_not_enabled (by simp)
  exact ⟨(s.latchCaps f).enterStarting, s.enterStarting, s.enterStarting,
    execRxStatus_of_status hp hf hop, execSkipStatus_of_enabled hp hskip, hlate, hskipLate,
    rfl, rfl, rfl⟩

/-! ### The Start frame -/

/-- Settles O25: the pending control write makes the guard false. -/
theorem issueStartSendsTheStartFrameOnce : Obligations.IssueStartSendsTheStartFrameOnce := by
  intro s hp hctrl
  exact ⟨s.issueControl (startFrame s), deliver_issueStart ⟨hp, hctrl⟩, rfl,
    execIssueStart_of_not_enabled (by simp)⟩

/-- Settles O26: the row is the confirmation delivered in `Starting`. -/
theorem startConfirmationOpensStreaming : Obligations.StartConfirmationOpensStreaming :=
  fun _ hp hctrl =>
    (deliver_txdoneOk_startingRow hp).symm.trans (deliver_txdoneOk_of_starting hp hctrl)

/-! ### Data confirmations -/

/-- The confirmation that makes `all_sent` true is that of the last write outstanding (R131). -/
theorem State.returnSlot_allSent_iff :
    s.returnSlot.AllSent ↔ s.nextIndex = s.blockCount ∧ s.outstanding = 1 :=
  and_congr_right fun _ => sub_eq_zero (a := s.outstanding) (b := 1)

/-- Settles O27, by whether the confirmation makes `all_sent` true. -/
theorem dataConfirmationReturnsASlotAndMayFinishStreaming :
    Obligations.DataConfirmationReturnsASlotAndMayFinishStreaming := by
  intro s hp hout
  rw [← deliver_txdoneOk_streamingRow hp]
  constructor
  · intro hrest
    exact deliver_txdoneOk_of_not_allSent hp hout (mt State.returnSlot_allSent_iff.1 hrest)
  · intro hlast
    have hsent := State.returnSlot_allSent_iff.2 hlast
    rw [deliver_txdoneOk_of_allSent hp hout hsent, ← hsent.2]
    rfl

end Sys2Proof.Machine
end

section
/-! PROOF. Answers to writes: failed ones (R129), late ones in `Failed` (R139) and those that answer no
write (R143, U6). -/

namespace Sys2Proof.Machine

variable {e : TransportInfo} {s : State}

/-! ### Which write is retired -/

theorem retireWrite_of_ctrl (h : s.ctrlPending = true) :
    s.retireWrite = { s with ctrlPending := false } := if_pos h

theorem retireWrite_of_data (h : s.ctrlPending = false) :
    s.retireWrite = { s with outstanding := s.outstanding - 1 } := if_neg (by simp [h])

/-! ### A write is pending -/

/-- R129. -/
theorem execTxdoneErr_of_job
    (hp : s.phase = .starting ∨ s.phase = .streaming ∨ s.phase = .acknowledging)
    (hpending : s.WritePending) :
    execTxdoneErr e s = .next (s.retireWrite.fail (.transportError e)) := by
  rcases hp with hp | hp | hp <;> simp only [execTxdoneErr, hp, if_pos hpending]

theorem execTxdoneErr_of_failed (hp : s.phase = .failed) (hpending : s.WritePending) :
    execTxdoneErr e s = .next s.retireWrite := by
  simp only [execTxdoneErr, hp, if_pos hpending]

theorem deliver_txdoneOk_of_failed (hp : s.phase = .failed) (hpending : s.WritePending) :
    deliver .txdoneOk s = .next s.retireWrite := by
  simp only [deliver, deliverTxdoneOk, hp, absorbTxdoneOk, if_pos hpending]

/-- Settles O28, by which write is pending and whether the job has failed already. -/
theorem writeFailureRetiresThenFails : Obligations.WriteFailureRetiresThenFails := by
  intro e s
  refine ⟨fun hp => ⟨fun hctrl => ?_, fun hctrl hout => ?_⟩,
    fun hp => ⟨fun hctrl => ?_, fun hctrl hout => ?_⟩⟩
  · rw [exec, execTxdoneErr_of_job hp (.inl hctrl), retireWrite_of_ctrl hctrl]
    rfl
  · rw [exec, execTxdoneErr_of_job hp (.inr hout), retireWrite_of_data hctrl]
    rfl
  · rw [exec, execTxdoneErr_of_failed hp (.inl hctrl), retireWrite_of_ctrl hctrl]
  · rw [exec, execTxdoneErr_of_failed hp (.inr hout), retireWrite_of_data hctrl]

/-! ### No write is pending -/

/-- The four states in which the block has no write of its own (R143). -/
def State.WithoutWrites (s : State) : Prop :=
  s.phase = .idle ∨ s.phase = .awaitingStatus ∨ s.phase = .awaitingCompletion ∨ s.phase = .done

theorem deliver_txdoneOk_of_withoutWrites (h : s.WithoutWrites) :
    deliver .txdoneOk s = .refused .noWritePending := by
  rcases h with hp | hp | hp | hp <;> simp only [deliver, deliverTxdoneOk, hp]

theorem execTxdoneErr_of_withoutWrites (h : s.WithoutWrites) :
    execTxdoneErr e s = .refused .noWritePending := by
  rcases h with hp | hp | hp | hp <;> simp only [execTxdoneErr, hp]

theorem deliver_txdoneOk_of_no_ctrl (hp : s.phase = .starting ∨ s.phase = .acknowledging)
    (hctrl : s.ctrlPending = false) : deliver .txdoneOk s = .refused .noWritePending := by
  rcases hp with hp | hp <;>
    simp [deliver, deliverTxdoneOk, hp, exec, execTxdoneOkInStarting, execTxdoneOkInAcknowledging,
      hctrl]

theorem deliver_txdoneOk_of_no_data (hp : s.phase = .streaming) (hout : s.outstanding = 0) :
    deliver .txdoneOk s = .refused .noWritePending := by
  simp [deliver, deliverTxdoneOk, hp, exec, execTxdoneOkInStreaming, hout]

/-- Every cell of R143's row `txdone(ok)` with nothing pending. -/
theorem deliver_txdoneOk_of_not_pending (hctrl : s.ctrlPending = false) (hout : s.outstanding = 0) :
    deliver .txdoneOk s = .refused .noWritePending := by
  cases hp : s.phase with
  | idle => exact deliver_txdoneOk_of_withoutWrites (.inl hp)
  | awaitingStatus => exact deliver_txdoneOk_of_withoutWrites (.inr (.inl hp))
  | starting => exact deliver_txdoneOk_of_no_ctrl (.inl hp) hctrl
  | streaming => exact deliver_txdoneOk_of_no_data hp hout
  | awaitingCompletion => exact deliver_txdoneOk_of_withoutWrites (.inr (.inr (.inl hp)))
  | acknowledging => exact deliver_txdoneOk_of_no_ctrl (.inr hp) hctrl
  | done => exact deliver_txdoneOk_of_withoutWrites (.inr (.inr (.inr hp)))
  | failed => simp [deliver, deliverTxdoneOk, hp, absorbTxdoneOk, hctrl, hout]

/-- Every cell of R143's row `txdone(err e)` with nothing pending. -/
theorem execTxdoneErr_of_not_pending (h : ¬ s.WritePending) :
    execTxdoneErr e s = .refused .noWritePending := by
  unfold execTxdoneErr
  split
  all_goals simp only [if_neg h]

/-! ### Reads of what is not there -/

theorem execAcquire_of_idle (hidle : s.phase = .idle) :
    execAcquire s = .refused .noSession := if_pos hidle

theorem execChunk_of_idle (hidle : s.phase = .idle) (i : Nat) :
    execChunk i s = .refused .noSession := by
  simp only [execChunk, chunkAt, if_pos hidle]

theorem memRead_past_image {addr n : Nat} (h : s.imgLen < addr + n) :
    memRead s addr n = .refused (.readPastImage addr n) := if_neg (Nat.not_le.2 h)

/-- Settles O29, by the state and what is pending in it. -/
theorem stepsWithoutAMeaningAreRefused : Obligations.StepsWithoutAMeaningAreRefused := by
  intro e s
  refine ⟨fun hp => ?_, fun hctrl hout => ?_, deliver_txdoneOk_of_no_ctrl,
    deliver_txdoneOk_of_no_data, fun hidle => ⟨execAcquire_of_idle hidle, execChunk_of_idle hidle⟩,
    fun _ _ => memRead_past_image⟩
  · exact ⟨deliver_txdoneOk_of_withoutWrites hp, execTxdoneErr_of_withoutWrites hp⟩
  · exact ⟨deliver_txdoneOk_of_not_pending hctrl hout,
      execTxdoneErr_of_not_pending (by simp [hctrl, hout])⟩

end Sys2Proof.Machine
end

section
/-! PROOF. Notifications that a state discards (R130, R135, R142), the completion wait (R132, R136) and
the acknowledgement (R133, R134). -/

namespace Sys2Proof.Machine

variable {s : State}

/-! ### Discarded notifications -/

/-- Settles O30: no frame wait, or a frame that the status wait does not await. -/
theorem notificationOutsideTheWaitsIsDiscarded :
    Obligations.NotificationOutsideTheWaitsIsDiscarded := by
  intro b s h
  refine ⟨rfl, ?_⟩
  rcases h with hp | hp | hp | ⟨hp, f, hf, hop⟩
  · exact deliver_rx_of_not_wait (by simp [hp]) b
  · exact deliver_rx_of_not_wait (by simp [hp]) b
  · exact deliver_rx_of_not_wait (by simp [hp]) b
  · exact deliver_rx_of_unawaited hf (by simp [hop]) (by simp [hp])

/-- Settles O34: the completion wait awaits the matching Complete alone. -/
theorem otherFrameLeavesTheCompletionWait : Obligations.OtherFrameLeavesTheCompletionWait :=
  fun _ _ _ hp hf hother =>
    ⟨rfl, deliver_rx_of_unawaited hf (by simp [hp]) (by simpa [hp] using hother)⟩

theorem undecodableInWait_of_not_fatal {k : DecodeKind}
    (h : ¬(k = .badLength ∧ s.badlenFatal = true)) : s.undecodableInWait k = s := if_neg h

theorem undecodableInWait_of_fatal (h : s.badlenFatal = true) :
    s.undecodableInWait .badLength = s.fail (.decodeError .badLength) := if_pos ⟨rfl, h⟩

/-- R142(a), (b): as row and as input. -/
theorem undecodable_discarded {b : List Byte} {k : DecodeKind} (hwait : s.InFrameWait)
    (hk : decControl b = .error k) (hkeep : ¬(k = .badLength ∧ s.badlenFatal = true)) :
    exec (.rxUndecodableInWait b) s = .next s ∧ deliver (.rx b) s = .next s := by
  have hrow : exec (.rxUndecodableInWait b) s = .next s := by
    rw [exec, execRxUndecodableInWait_of_error hwait hk, undecodableInWait_of_not_fatal hkeep]
  exact ⟨hrow, (deliver_rx_undecodable hwait hk).trans hrow⟩

/-- Settles O41, by the decode error and `BADLEN_FATAL`. -/
theorem undecodableNotificationInAWait : Obligations.UndecodableNotificationInAWait := by
  intro b s hwait
  refine ⟨fun hk => undecodable_discarded hwait hk (by simp),
    fun hk hfatal => undecodable_discarded hwait hk (by simp [hfatal]),
    fun hk hfatal => ⟨?_, deliver_rx_undecodable hwait hk⟩⟩
  rw [exec, execRxUndecodableInWait_of_error hwait hk, undecodableInWait_of_fatal hfatal]
  rfl

/-! ### The completion wait -/

/-- Settles O31: `w1` alone decides the match. -/
theorem matchingCompleteStartsTheAcknowledgement :
    Obligations.MatchingCompleteStartsTheAcknowledgement :=
  fun _ _ _ _ _ _ hp hf =>
    execRxCompleteMatch_of_match hp (isCompleteFor_eq_true.2 ⟨_, hf, rfl, rfl⟩)

/-- Settles O35: the timeout in its own state is a failure (R175). -/
theorem completionTimeoutFailsTheJob : Obligations.CompletionTimeoutFailsTheJob :=
  fun _ hp => if_pos hp

/-! ### The acknowledgement -/

/-- Settles O32: the pending control write makes the guard false. -/
theorem issueAckSendsTheAckFrameOnce : Obligations.IssueAckSendsTheAckFrameOnce := by
  intro s hp hctrl
  exact ⟨s.issueControl (ackFrame s), deliver_issueAck ⟨hp, hctrl⟩, rfl,
    execIssueAck_of_not_enabled (by simp)⟩

/-- Settles O33: the row is the confirmation delivered in `Acknowledging`. -/
theorem ackConfirmationCompletesTheJob : Obligations.AckConfirmationCompletesTheJob :=
  fun _ hp hctrl =>
    (deliver_txdoneOk_acknowledgingRow hp).symm.trans (deliver_txdoneOk_of_acknowledging hp hctrl)

end Sys2Proof.Machine
end

section
/-! PROOF. What a step can output (R120), and the end of a session: `Done` (R137, R138), `Failed`
(R139), `cancel` (R140) and the closed stream (R141). -/

namespace Sys2Proof.Machine

variable {s t : State} {e : Event}

/-! ### Outputs -/

/-- A frame goes out in three states only, one at a time, a control frame or a data frame. -/
theorem Moved.tx_cases (h : Moved s e t) :
    t.tx = s.tx ∨ (s.phase = .starting ∨ s.phase = .streaming ∨ s.phase = .acknowledging) ∧
      ∃ f, t.tx = s.tx ++ [f] ∧ (f.length = 12 ∨ f.length = 20) := by
  cases h with
  | startIssued hguard => exact .inr ⟨.inl hguard.1, _, rfl, .inl rfl⟩
  | ackIssued hguard => exact .inr ⟨.inr (.inr hguard.1), _, rfl, .inl rfl⟩
  | blockEmitted hguard p hchunk =>
    obtain ⟨-, -, hlen, -⟩ := chunkAt_next hchunk
    exact .inr ⟨.inr (.inl hguard.1), _, rfl, .inr (by rw [length_dataBytes, hlen])⟩
  | writeFailed | okRetired | errRetired => exact .inl (retireWrite_tx s)
  | _ => exact .inl rfl

theorem retireWrite_responses (s : State) : s.retireWrite.responses = s.responses := by
  unfold State.retireWrite
  split <;> rfl

theorem Moved.responses_cases (h : Moved s e t) :
    t.responses = s.responses ∨ ∃ r, t.responses = s.responses ++ [r] := by
  cases h with
  | rejected | inProgress | lengthFatal | timedOut | cancelled | ackConfirmed => exact .inr ⟨_, rfl⟩
  | writeFailed => exact .inr ⟨_, by rw [State.fail_responses, retireWrite_responses]⟩
  | okRetired | errRetired => exact .inl (retireWrite_responses s)
  | _ => exact .inl rfl

/-- Settles O53, by the moves of a step. -/
theorem stepOutputsAtMostOneFrameAndOneAnswer :
    Obligations.StepOutputsAtMostOneFrameAndOneAnswer := by
  intro s t hstep
  rcases step_moved hstep with ⟨-, rfl⟩ | ⟨e, rest, -, hmoved⟩
  · exact ⟨.inl rfl, .inl rfl⟩
  · exact ⟨hmoved.tx_cases.imp_right And.right, hmoved.responses_cases⟩

/-! ### The release of a session -/

/-- R202: the registers a release leaves unspecified take free values. -/
theorem sessionReleased_release (s : State) : SessionReleased s s.release :=
  ⟨_, _, _, _, _, _, _, _, _, _, rfl⟩

/-! ### `Done` -/

/-- Settles O36: `Done` is no frame wait. -/
theorem doneAbsorbsEveryNotification : Obligations.DoneAbsorbsEveryNotification := by
  intro b s hp
  have hwait : ¬ s.InFrameWait := by simp [hp]
  exact ⟨rfl, deliver_rx_of_not_wait hwait b, fun r hinbox =>
    (step_of_inbox_cons hinbox).trans (deliver_rx_of_not_wait (s := { s with inbox := r }) hwait b)⟩

/-- Settles O37: the grace timer releases in `Done`, and `Idle` is no frame wait. -/
theorem graceExpiryReleasesTheSession : Obligations.GraceExpiryReleasesTheSession :=
  ⟨fun s hp => ⟨s.release, deliver_tGrace hp, sessionReleased_release s⟩,
    fun b _ hp => deliver_rx_of_not_wait (by simp [hp]) b⟩

/-- The moves in `Done`: the grace timer ends it, and every other move with an effect has its guard in
another state. -/
theorem Moved.of_done (h : Moved s e t) (hp : s.phase = .done) :
    (t.phase = .done ∧ t.cause = s.cause) ∨ (t.phase = .idle ∧ e = .tGrace) := by
  cases h with
  | same | returned | inProgress => exact .inl ⟨hp, rfl⟩
  | drained => exact .inr ⟨rfl, rfl⟩
  | accepted _ _ _ hguard | rejected _ _ _ hguard | statusTaken _ _ hguard | statusSkipped hguard
  | statusTimedOut hguard | lengthFatal _ hguard | startIssued hguard | startConfirmed hguard
  | blockEmitted hguard | slotReturned hguard | allSent hguard | writeFailed _ hguard
  | okRetired hguard | errRetired _ hguard | completed _ _ hguard | ackIssued hguard
  | ackConfirmed hguard | timedOut hguard | released hguard | cancelled hguard =>
    exact absurd hguard (by simp [hp])

/-- Settles O58, by the moves in `Done`. -/
theorem doneIsLeftOnlyByTheGraceTimer : Obligations.DoneIsLeftOnlyByTheGraceTimer := by
  intro s t hp hstep
  rcases step_moved hstep with ⟨-, rfl⟩ | ⟨e, rest, hinbox, hmoved⟩
  · exact ⟨rfl, .inl ⟨hp, rfl⟩⟩
  · have htx : t.tx = s.tx := hmoved.tx_cases.resolve_right (by simp [hp])
    refine ⟨htx, (hmoved.of_done hp).imp_right fun ⟨hidle, he⟩ => ⟨hidle, rest, ?_⟩⟩
    rw [hinbox, he]

/-! ### `cancel` and the closed stream -/

theorem execCancel_of_not_cancellable (h : ¬ s.Cancellable) : execCancel s = .next s := if_neg h

/-- Settles O39, by whether `STATE` is one of the five job states. -/
theorem cancelFailsTheJobInTheFiveJobStates : Obligations.CancelFailsTheJobInTheFiveJobStates := by
  intro s
  refine ⟨fun hp => if_pos hp, fun hp => execCancel_of_not_cancellable ?_⟩
  rcases hp with hp | hp | hp <;> simp [hp]

/-- Settles O40: the closed stream delivered is its row, which has no effect. -/
theorem streamClosedChangesNoRegister : Obligations.StreamClosedChangesNoRegister :=
  fun _ => ⟨rfl, fun _ => step_of_inbox_cons⟩

/-! ### `Failed` -/

/-- Settles O38: what has its guard in another state, then the pending writes, then the release. -/
theorem failedAbsorbsRetiresAndReleases : Obligations.FailedAbsorbsRetiresAndReleases := by
  intro s hp
  refine ⟨deliver_rx_of_not_wait (by simp [hp]), rfl, execCancel_of_not_cancellable (by simp [hp]),
    execTStatus_of_stale (by simp [hp]), execTComplete_of_stale (by simp [hp]),
    execTGrace_of_stale (by simp [hp]), fun k t hdeliver => ?_, fun e hctrl => ?_,
    fun e hctrl hout => ?_, fun hout hctrl => ?_, fun hpending => ?_⟩
  · exact (deliver_moved hdeliver).tx_cases.resolve_right (by simp [hp])
  · rw [← retireWrite_of_ctrl hctrl]
    exact ⟨deliver_txdoneOk_of_failed hp (.inl hctrl), execTxdoneErr_of_failed hp (.inl hctrl)⟩
  · rw [← retireWrite_of_data hctrl]
    exact ⟨deliver_txdoneOk_of_failed hp (.inr hout), execTxdoneErr_of_failed hp (.inr hout)⟩
  · exact ⟨s.release, if_pos ⟨hp, hout, hctrl⟩, sessionReleased_release s⟩
  · exact execReleaseSession_of_not_enabled fun hguard => hpending hguard.2

end Sys2Proof.Machine
end

section
/-! PROOF. What a notification can write (R190), the way out of `Failed` (R176), and the entry to the two
terminal states (R134, R175). -/

namespace Sys2Proof.Machine

variable {s t : State} {e : Event}

/-! ### Notifications -/

/-- R190: all that a notification can write is `STATE`, `CAUSE`, `CAP`, the timers and the answer. -/
theorem State.receive_frame (d : Except DecodeKind ControlFrame) (s : State) :
    s.receive d =
      { s with
        phase := (s.receive d).phase, cause := (s.receive d).cause,
        capValid := (s.receive d).capValid, cap := (s.receive d).cap,
        timers := (s.receive d).timers, responses := (s.receive d).responses } := by
  rcases s.receive_cases d with h | ⟨f, -, -, -, h⟩ | ⟨f, -, -, -, -, h⟩ | ⟨-, -, -, h⟩ <;> rw [h]
  all_goals rfl

/-- Settles O54: the step is `receive`, and no register of the statement is one that `receive` writes. -/
theorem deviceCannotWriteConfigurationOrJob : Obligations.DeviceCannotWriteConfigurationOrJob := by
  intro s t b rest hinbox hstep
  rw [step_of_inbox_cons hinbox, deliver_rx_eq, State.receive_frame] at hstep
  cases hstep
  exact ⟨rfl, rfl, rfl, rfl, rfl, rfl, rfl, rfl, rfl, rfl, rfl, fun _ => rfl, rfl, rfl, rfl, rfl⟩

/-! ### The way out of `Failed` -/

theorem retireWrite_cause (s : State) : s.retireWrite.cause = s.cause := by
  unfold State.retireWrite
  split <;> rfl

/-- The moves in `Failed`: a late `txdone` retires its write, a request is turned away, the release ends
it, and every other move with an effect has its guard in another state. -/
theorem Moved.of_failed (h : Moved s e t) (hp : s.phase = .failed) :
    (t.phase = .failed ∧ t.cause = s.cause ∧
      (t.responses = s.responses ∨ t.responses = s.responses ++ [.err .jobInProgress])) ∨
    (t.phase = .idle ∧ s.outstanding = 0 ∧ s.ctrlPending = false ∧
      e = .spontaneous .releaseSession) := by
  cases h with
  | same | returned => exact .inl ⟨hp, rfl, .inl rfl⟩
  | inProgress => exact .inl ⟨hp, rfl, .inr rfl⟩
  | okRetired | errRetired =>
    exact .inl ⟨(retireWrite_phase s).trans hp, retireWrite_cause s, .inl (retireWrite_responses s)⟩
  | released hguard => exact .inr ⟨rfl, hguard.2.1, hguard.2.2, rfl⟩
  | accepted _ _ _ hguard | rejected _ _ _ hguard | statusTaken _ _ hguard | statusSkipped hguard
  | statusTimedOut hguard | lengthFatal _ hguard | startIssued hguard | startConfirmed hguard
  | blockEmitted hguard | slotReturned hguard | allSent hguard | writeFailed _ hguard
  | completed _ _ hguard | ackIssued hguard | ackConfirmed hguard | timedOut hguard | drained hguard
  | cancelled hguard =>
    exact absurd hguard (by simp [hp])

/-- Settles O57, by the moves in `Failed`; none of the states that send a frame is `Failed`. -/
theorem failedIsLeftOnlyByRelease : Obligations.FailedIsLeftOnlyByRelease := by
  intro s t hp hstep
  rcases step_moved hstep with ⟨-, rfl⟩ | ⟨e, rest, hinbox, hmoved⟩
  · exact .inl ⟨hp, rfl, rfl, .inl rfl⟩
  · have htx : t.tx = s.tx := hmoved.tx_cases.resolve_right (by simp [hp])
    rcases hmoved.of_failed hp with ⟨hstays, hcause, hresponses⟩ | ⟨hidle, hout, hctrl, rfl⟩
    · exact .inl ⟨hstays, hcause, htx, hresponses⟩
    · exact .inr ⟨hidle, hout, hctrl, rest, hinbox⟩

/-! ### The entry to the terminal states -/

theorem retireWrite_cap (s : State) : s.retireWrite.cap = s.cap := by
  unfold State.retireWrite
  split <;> rfl

theorem State.Cancellable.not_idle_not_done (h : s.Cancellable) :
    s.phase ≠ .idle ∧ s.phase ≠ .done := by
  rcases h with hp | hp | hp | hp | hp <;> simp [hp]

/-- R175: `Failed` is entered by `fail` alone, from one of the five job states, after the write that a
`txdone(err e)` answers is retired (R129). -/
theorem Moved.enters_failed (h : Moved s e t) (hs : s.phase ≠ .failed) (ht : t.phase = .failed) :
    s.Cancellable ∧
      ∃ c, t = s.fail c ∨ (∃ info, e = .txdoneErr info) ∧ t = s.retireWrite.fail c := by
  cases h with
  | lengthFatal _ hwait => exact ⟨hwait.imp_right fun hp => .inr (.inr (.inl hp)), _, .inl rfl⟩
  | writeFailed info hphase =>
    refine ⟨.inr ?_, _, .inr ⟨⟨info, rfl⟩, rfl⟩⟩
    exact hphase.imp_right fun hp => hp.imp_right .inr
  | timedOut hphase => exact ⟨.inr (.inr (.inr (.inl hphase))), _, .inl rfl⟩
  | cancelled hphase => exact ⟨hphase, _, .inl rfl⟩
  | okRetired hp | errRetired _ hp => exact absurd hp hs
  | same | returned | rejected | inProgress | startIssued | blockEmitted | slotReturned | ackIssued =>
    exact absurd ht hs
  | accepted | statusTaken | statusSkipped | statusTimedOut | startConfirmed | allSent | completed
  | ackConfirmed | drained | released => cases ht

/-- R134: `Done` is entered by the confirmation of the ACK frame alone. -/
theorem Moved.enters_done (h : Moved s e t) (hs : s.phase ≠ .done) (ht : t.phase = .done) :
    s.phase = .acknowledging ∧ t = s.enterDone := by
  cases h with
  | ackConfirmed hphase => exact ⟨hphase, rfl⟩
  | okRetired | errRetired => exact absurd ((retireWrite_phase s).symm.trans ht) hs
  | same | returned | rejected | inProgress | startIssued | blockEmitted | slotReturned | ackIssued =>
    exact absurd ht hs
  | accepted | statusTaken | statusSkipped | statusTimedOut | lengthFatal | startConfirmed | allSent
  | writeFailed | completed | timedOut | drained | released | cancelled => cases ht

/-- Settles O59: what `fail` writes and keeps, with or without a write retired first, and what the
confirmation of the ACK frame writes. -/
theorem terminalStatesAreEnteredWithTheirAnswer :
    Obligations.TerminalStatesAreEnteredWithTheirAnswer := by
  intro s t hstep
  rcases step_moved hstep with ⟨-, rfl⟩ | ⟨e, rest, hinbox, hmoved⟩
  · exact ⟨fun hs ht => absurd ht hs, fun hs ht => absurd ht hs⟩
  refine ⟨fun hs ht => ?_, fun hs ht => ?_⟩
  · obtain ⟨hjob, c, heq⟩ := hmoved.enters_failed hs ht
    obtain ⟨hidle, hdone⟩ := hjob.not_idle_not_done
    rcases heq with rfl | ⟨⟨info, rfl⟩, rfl⟩
    · exact ⟨⟨c, rfl, rfl⟩, rfl, rfl, rfl, rfl, rfl, hidle, hdone, .inr ⟨rfl, rfl⟩⟩
    · obtain ⟨-, -, hcount, -⟩ := sameJob_retireWrite { s with inbox := rest }
      exact ⟨⟨c, rfl, by rw [State.fail_responses, retireWrite_responses]⟩, rfl, retireWrite_tx _,
        retireWrite_nextIndex _, hcount, retireWrite_cap _, hidle, hdone, .inl ⟨info, rest, hinbox⟩⟩
  · obtain ⟨hphase, rfl⟩ := hmoved.enters_done hs ht
    exact ⟨rfl, hphase⟩

end Sys2Proof.Machine
end

section
/-! PROOF. The block after power-on (R200), and what any instruction at all can do, with the parameters
and the waiting inputs that none of them writes (R27, R28, R50, R204, R214). -/

namespace Sys2Proof.Machine

variable {s t : State}

/-- Settles O48: each value is the one R200 gives, and an image without a byte listed holds none. -/
theorem powerOnState : Obligations.PowerOnState :=
  ⟨rfl, rfl, rfl, rfl, rfl, rfl, fun _ => rfl, rfl⟩

/-! ### What an instruction can do -/

/-- Everything an instruction can do: what some input delivered does, or, for an operation run on its own
(R5, R105), its effect on the session registers or its answer. -/
inductive Executed (s : State) : State → Prop where
  /-- the effect of an input (R143) -/
  | moved {e : Event} {t : State} (h : Moved s e t) : Executed s t
  /-- a value or an error on the operation's port -/
  | answered (r : OpResult) : Executed s (s.giveResult r)
  /-- R110 -/
  | loaded (image : List Byte) (cfg : JobConfig) (c : Latched) (hidle : s.phase = .idle)
      (himage : imageProblem image = none) (hcfg : latch cfg = .ok c) :
      Executed s (s.loadSession image c)
  /-- R100 -/
  | slotTaken (hbusy : s.Busy) (hslot : s.SlotFree) : Executed s s.takeSlot
  /-- R101 -/
  | slotReturned (hout : 0 < s.outstanding) : Executed s s.returnSlot

/-- Nothing happened, as for an input without effect. -/
theorem executed_of_unchanged (h : Host.Outcome.next s = (.next t : Result)) : Executed s t := by
  cases h
  exact .moved (.same .rxClosed)

/-- What an input delivered does. -/
theorem executed_of_deliver (e : Event) (h : deliver e s = .next t) : Executed s t :=
  .moved (deliver_moved h)

/-! ### Frames -/

/-- A received control frame does what its bytes delivered do (R49). -/
theorem executed_receive (op : Opcode) (w1 w2 w3 w4 w5 : Word)
    (h : Host.Outcome.next (s.receive (.ok ⟨op, w1, w2, w3, w4, w5⟩)) = (.next t : Result)) :
    Executed s t := by
  refine executed_of_deliver (.rx (controlBytes op w1 w2 w3 w4 w5)) ?_
  rwa [deliver_rx_eq, decControl_controlBytes]

/-- A received DATA frame does what any notification of a wrong length does (R49). -/
theorem executed_receive_badLength
    (h : Host.Outcome.next (s.receive (.error .badLength)) = (.next t : Result)) : Executed s t :=
  executed_of_deliver (.rx []) ((deliver_rx_eq [] s).trans h)

/-- A sent START that is taken is the one `issue_start` hands over (R81, R125). -/
theorem executed_start_sent {w1 w2 w3 w4 w5 : Word}
    (h : execStart .sent w1 w2 w3 w4 w5 s = .next t) : Executed s t := by
  simp only [execStart] at h
  split at h
  next hdue =>
    obtain ⟨hguard, rfl, rfl, rfl, rfl, rfl⟩ := hdue
    cases h
    exact .moved (.startIssued hguard)
  next => exact executed_of_unchanged h

/-- A sent ACK that is taken is the one `issue_ack` hands over (R82, R133). -/
theorem executed_ack_sent {bc token : Word} (h : execAck .sent bc token s = .next t) :
    Executed s t := by
  simp only [execAck] at h
  split at h
  next hdue =>
    obtain ⟨hguard, rfl, rfl⟩ := hdue
    cases h
    exact .moved (.ackIssued hguard)
  next => exact executed_of_unchanged h

/-- A sent DATA that is taken is the block `NEXT_BLOCK` emits (R85, R114). -/
theorem executed_data_sent {index : Word} {payload : List Byte}
    (h : execData .sent index payload s = .next t) : Executed s t := by
  simp only [execData] at h
  split at h
  next hdue =>
    obtain ⟨hguard, rfl⟩ := hdue
    split at h
    next c hchunk =>
      split at h
      next hpayload =>
        cases h
        exact .moved (.blockEmitted hguard _ (hpayload ▸ hchunk))
      next => exact executed_of_unchanged h
    next => cases h
    next => cases h
  next => exact executed_of_unchanged h

/-! ### Operations -/

theorem executed_acquire (h : execAcquire s = .next t) : Executed s t := by
  unfold execAcquire at h
  split at h
  next => cases h
  next hbusy =>
    split at h
    next hslot => cases h; exact .slotTaken hbusy hslot
    next => exact executed_of_unchanged h

theorem executed_release (h : execRelease s = .next t) : Executed s t := by
  unfold execRelease at h
  split at h <;> cases h
  exact .slotReturned (by assumption)

theorem executed_chunk {i : Nat} (h : execChunk i s = .next t) : Executed s t := by
  unfold execChunk at h
  split at h <;> cases h
  exact .answered _

theorem executed_jobLoad {image : List Byte} {cfg : JobConfig}
    (h : execJobLoad image cfg s = .next t) : Executed s t := by
  unfold execJobLoad at h
  split at h
  next hidle =>
    rcases loadJob_cases image cfg s with ⟨c, -, hload⟩ | ⟨r, -, -, hload⟩ | ⟨c, himage, hcfg, hload⟩ <;>
      rw [hload] at h <;> cases h
    · exact .answered _
    · exact .loaded image cfg c hidle himage hcfg
  next => cases h; exact .answered _

/-! ### Sequencer steps whose row is not an input's in every state -/

theorem executed_printReqAccept {image : List Byte} {cfg : JobConfig}
    (h : execPrintReqAccept image cfg s = .next t) : Executed s t := by
  unfold execPrintReqAccept at h
  split at h
  next hidle =>
    rcases loadJob_cases image cfg s with ⟨c, -, hload⟩ | ⟨r, -, -, hload⟩ | ⟨c, himage, hcfg, hload⟩ <;>
      rw [hload] at h
    · exact executed_of_unchanged h
    · cases h
    · cases h; exact .moved (.accepted image cfg c hidle himage hcfg)
  next => exact executed_of_unchanged h

theorem executed_printReqReject {image : List Byte} {cfg : JobConfig}
    (h : execPrintReqReject image cfg s = .next t) : Executed s t := by
  unfold execPrintReqReject at h
  split at h
  next hidle =>
    rcases loadJob_cases image cfg s with ⟨c, himage, hload⟩ | ⟨r, -, -, hload⟩ | ⟨c, -, -, hload⟩ <;>
      rw [hload] at h
    · cases h; exact .moved (.rejected image cfg c hidle himage)
    · cases h
    · exact executed_of_unchanged h
  next hbusy => cases h; exact .moved (.inProgress image cfg hbusy)

theorem executed_rxStatus {b : List Byte} (h : execRxStatus b s = .next t) : Executed s t := by
  by_cases hawaited : s.phase = .awaitingStatus ∧ isStatus (decControl b) = true
  · obtain ⟨hp, hstatus⟩ := hawaited
    obtain ⟨f, hf, hop⟩ := isStatus_eq_true.1 hstatus
    rw [execRxStatus_of_status hp hf hop] at h
    cases h
    exact .moved (.statusTaken b f hp hf hop)
  · rw [not_and_or, Bool.not_eq_true] at hawaited
    exact executed_of_unchanged ((execRxStatus_of_unawaited hawaited).symm.trans h)

theorem executed_rxCompleteMatch {b : List Byte} (h : execRxCompleteMatch b s = .next t) :
    Executed s t := by
  by_cases hawaited : s.phase = .awaitingCompletion ∧
      isCompleteFor (decControl b) s.blockCount = true
  · obtain ⟨hp, hmatch⟩ := hawaited
    obtain ⟨f, hf, hop, hcount⟩ := isCompleteFor_eq_true.1 hmatch
    rw [execRxCompleteMatch_of_match hp hmatch] at h
    cases h
    exact .moved (.completed b f hp hf hop hcount)
  · rw [not_and_or, Bool.not_eq_true] at hawaited
    exact executed_of_unchanged ((execRxCompleteMatch_of_unawaited hawaited).symm.trans h)

theorem executed_rxUndecodableInWait {b : List Byte} (h : execRxUndecodableInWait b s = .next t) :
    Executed s t := by
  by_cases hwait : s.InFrameWait
  · rcases hd : decControl b with k | f
    · exact executed_of_deliver (.rx b) ((deliver_rx_undecodable hwait hd).trans h)
    · simp only [execRxUndecodableInWait, if_pos hwait, hd] at h
      exact executed_of_unchanged h
  · exact executed_of_unchanged ((if_neg hwait).symm.trans h)

theorem executed_txdoneOkInStarting (h : execTxdoneOkInStarting s = .next t) : Executed s t := by
  by_cases hp : s.phase = .starting
  · exact executed_of_deliver .txdoneOk ((deliver_txdoneOk_startingRow hp).trans h)
  · exact executed_of_unchanged ((execTxdoneOkInStarting_elsewhere hp).symm.trans h)

theorem executed_txdoneOkInStreaming (h : execTxdoneOkInStreaming s = .next t) : Executed s t := by
  by_cases hp : s.phase = .streaming
  · exact executed_of_deliver .txdoneOk ((deliver_txdoneOk_streamingRow hp).trans h)
  · exact executed_of_unchanged ((execTxdoneOkInStreaming_elsewhere hp).symm.trans h)

theorem executed_txdoneOkInAcknowledging (h : execTxdoneOkInAcknowledging s = .next t) :
    Executed s t := by
  by_cases hp : s.phase = .acknowledging
  · exact executed_of_deliver .txdoneOk ((deliver_txdoneOk_acknowledgingRow hp).trans h)
  · exact executed_of_unchanged ((execTxdoneOkInAcknowledging_elsewhere hp).symm.trans h)

/-! ### Every instruction -/

theorem exec_executed {i : Instr} (h : exec i s = .next t) : Executed s t := by
  cases i with
  -- frames, received and sent
  | status | complete | midProgress => exact executed_receive _ _ _ _ _ _ h
  | start dir =>
    cases dir with
    | received => exact executed_receive _ _ _ _ _ _ h
    | sent => exact executed_start_sent h
  | ack dir =>
    cases dir with
    | received => exact executed_receive _ _ _ _ _ _ h
    | sent => exact executed_ack_sent h
  | data dir =>
    cases dir with
    | received => exact executed_receive_badLength h
    | sent => exact executed_data_sent h
  -- operations
  | encCtrl | decCtrl | encData | decData => cases h; exact .answered _
  | acquire => exact executed_acquire h
  | release => exact executed_release h
  | jobLoad => exact executed_jobLoad h
  | chunk => exact executed_chunk h
  | opNextBlock | nextBlock => exact executed_of_deliver (.spontaneous .nextBlock) h
  -- sequencer steps that an input or an offer runs in every state
  | skipStatus => exact executed_of_deliver (.spontaneous .skipStatus) h
  | issueStart => exact executed_of_deliver (.spontaneous .issueStart) h
  | issueAck => exact executed_of_deliver (.spontaneous .issueAck) h
  | releaseSession => exact executed_of_deliver (.spontaneous .releaseSession) h
  | tStatus => exact executed_of_deliver .tStatus h
  | tComplete => exact executed_of_deliver .tComplete h
  | tGrace => exact executed_of_deliver .tGrace h
  | cancel => exact executed_of_deliver .cancel h
  | txdoneErr e => exact executed_of_deliver (.txdoneErr e) h
  -- the other sequencer steps
  | printReqAccept => exact executed_printReqAccept h
  | printReqReject => exact executed_printReqReject h
  | rxStatus => exact executed_rxStatus h
  | rxCompleteMatch => exact executed_rxCompleteMatch h
  | rxUndecodableInWait => exact executed_rxUndecodableInWait h
  | txdoneOkInStarting => exact executed_txdoneOkInStarting h
  | txdoneOkInStreaming => exact executed_txdoneOkInStreaming h
  | txdoneOkInAcknowledging => exact executed_txdoneOkInAcknowledging h
  | rxDiscard | rxOtherInAwaitingCompletion | rxInDone | rxClosed => exact executed_of_unchanged h

/-! ### The parameters and the waiting inputs -/

/-- The two parameters (R27, R28) and the inputs not yet consumed (R50) of `t` are those of `s`. -/
def ParametersKept (s t : State) : Prop :=
  t.ackToken = s.ackToken ∧ t.badlenFatal = s.badlenFatal ∧ t.inbox = s.inbox

theorem parametersKept_retireWrite (s : State) : ParametersKept s s.retireWrite := by
  unfold State.retireWrite
  split <;> exact ⟨rfl, rfl, rfl⟩

/-- R204, R214: no input delivered writes them, the creation and the release of a session included. -/
theorem Moved.parametersKept {e : Event} (h : Moved s e t) : ParametersKept s t := by
  cases h with
  | writeFailed | okRetired | errRetired => exact parametersKept_retireWrite s
  | _ => exact ⟨rfl, rfl, rfl⟩

theorem Executed.parametersKept (h : Executed s t) : ParametersKept s t := by
  cases h with
  | moved h => exact h.parametersKept
  | answered | loaded | slotTaken | slotReturned => exact ⟨rfl, rfl, rfl⟩

/-- Settles O55, by what an instruction can do: none of it writes a parameter or an input. -/
theorem noInstructionWritesTheParameters : Obligations.NoInstructionWritesTheParameters :=
  fun _ _ _ h => (exec_executed h).parametersKept

end Sys2Proof.Machine
end
